-- ==== Sys2Proof/Word.lean ====
section
/-! DEFINITION. The byte: the only word of this hardware (`00_scope.md` rule R8, `u8`). -/

namespace Sys2Proof

/-- `u8`: every frame byte, ID, opcode, register address and status byte (rule R8). -/
abbrev Byte := BitVec 8

end Sys2Proof
end

