-- ==== Sys2Proof/Config.lean ====
section
/-! DEFINITION. What one instance of the block fixes (`00_scope.md` rule R7): the numeric literals of the
protocol, kept here so that an audit can change each in one place (`93_implementation_defined.md` U11), the types of
the parameters, and the OPEN parameters as constants without a body. -/

namespace Sys2Proof

/-! ## The protocol's literals (rules R7, R80, R84) -/

/-- `SYNC`, byte 0 of every frame (rule R80). -/
def Config.sync0 : Byte := 0xFF
/-- `SYNC`, byte 1 of every frame (rule R80). -/
def Config.sync1 : Byte := 0xFF
/-- `BROADCAST_ID`, 254 (rule R51). -/
def Config.broadcastId : Byte := 254
/-- `MAX_UNICAST_ID`, 253 (rule R51). -/
def Config.maxUnicastId : Byte := 253
/-- 255, "not a legal ID" (rules R51, R95). -/
def Config.illegalId : Byte := 255
/-- `MAX_PARAMS` (rules R7, R111). -/
def Config.maxParams : Nat := 253
/-- `MAX_FRAME` (rules R7, R25). -/
def Config.maxFrame : Nat := 259

/-- `PING`, `0x01` (rule R84). -/
def Config.opPing : Byte := 0x01
/-- `READ`, `0x02` (rule R84). -/
def Config.opRead : Byte := 0x02
/-- `WRITE`, `0x03` (rule R84). -/
def Config.opWrite : Byte := 0x03
/-- `REG_WRITE`, `0x04` (rule R84). -/
def Config.opRegWrite : Byte := 0x04
/-- `ACTION`, `0x05` (rule R84). -/
def Config.opAction : Byte := 0x05
/-- `RESET`, `0x06` (rule R84). -/
def Config.opReset : Byte := 0x06
/-- `SYNC_WRITE`, `0x83` (rule R84). -/
def Config.opSyncWrite : Byte := 0x83

/-! ## Error flags (rules R28, R92) -/

/-- The six names of the error flags (rule R28). -/
inductive ErrorFlag where
  | voltage | sensor | temperature | current | angle | overload
deriving DecidableEq, Repr

/-- A set of error flags, one bit a name: the 6-bit registers `r_flags` and `t_fmask` (rules R23, R24). -/
structure ErrorFlags where
  voltage : Bool
  sensor : Bool
  temperature : Bool
  current : Bool
  angle : Bool
  overload : Bool
deriving DecidableEq, Repr, Inhabited

/-- `ERRBIT`: the bit of the status byte that carries each flag (rules R7, R92). -/
structure ErrBit where
  voltage : Fin 8
  sensor : Fin 8
  temperature : Fin 8
  current : Fin 8
  angle : Fin 8
  overload : Fin 8
deriving DecidableEq, Repr

/-! ## The Register Table (rule R30) -/

/-- Bytes a register occupies: 1 or 2, no other width exists (rules R30, R31). -/
inductive Width where
  | one | two
deriving DecidableEq, Repr

/-- Storage class in the peripheral; no rule of the block reads it (rules R30, R52). -/
inductive Storage where
  | eeprom | sram
deriving DecidableEq, Repr

/-- Write permission of a register (rules R30, R172). -/
inductive Access where
  | readOnly | readWrite
deriving DecidableEq, Repr

/-- How a raw field maps to a signed integer (rules R30, R163, R164). -/
inductive Encoding where
  | unsigned
  | signedDirectionBit (bit : Nat)
deriving DecidableEq, Repr

/-- One `RegisterDescriptor` (rule R30). -/
structure RegisterDescriptor where
  address : Byte
  width : Width
  storage : Storage
  access : Access
  encoding : Encoding
  scale : Rat
  min : Rat
  max : Rat
deriving DecidableEq, Repr

/-- The parameters of the step relation (rules R7, R21): none of them is state. -/
structure Params where
  /-- `REGTAB` (rule R30). -/
  regTab : List RegisterDescriptor
  /-- `TIMEOUT_TICKS`, at least 1 (rule R29). -/
  timeoutTicks : Nat
  /-- `FMASK_READ`, the default mask of `READREG` (rule R177). -/
  fmaskRead : ErrorFlags
  /-- `FMASK_WRITE`, the default mask of `WRITEREG` (rule R177). -/
  fmaskWrite : ErrorFlags
  /-- `ERRBIT` (rule R92). -/
  errBit : ErrBit
deriving DecidableEq, Repr

/-! ## The OPEN parameters: constants without a body (rule R7; decisions D7, D14, D18) -/

/-- The table offered at process start. Its contents are not in the source (rule R30, N5): DESIGN CHOICE, log 4. -/
opaque Config.regTab : List RegisterDescriptor
/-- The offered `TIMEOUT_TICKS`, OPEN (decision D7): log 4. -/
opaque Config.timeoutTicks : Nat
/-- `FMASK_READ`, OPEN (decision D14): log 4. -/
opaque Config.fmaskRead : ErrorFlags
/-- `FMASK_WRITE`, OPEN (decision D14): log 4. -/
opaque Config.fmaskWrite : ErrorFlags

/-! ## A free value of the client sequences -/

/-- The `u16` that a client makes of a calibration position that is no integer in 0 to 65535; not described by DOC0
(`44_client_sequences.md` rule R216, `90_conflicts.md` C10, N12): log 21. -/
opaque Config.positionOutOfU16 : Rat → BitVec 16

end Sys2Proof
end

