-- ==== Sys2Proof/Syntax.lean ====
section
/-! DEFINITION. The instructions and the commands as syntax. `Instr` has one constructor per row of
`opcode_table.json`; `Command` is what the client presents on the command port (`10_state.md` rule R34,
`30_encoding.md` rule R93). -/

namespace Sys2Proof

/-- One instruction: the raw command `EXEC id, OPC, params, resp|noresp` of rules R93 and R190 with a legal opcode
(rule R84). The dispatcher "does not check that the parameters have the layout the opcode expects" (rule R191), so
every instruction carries its parameter bytes as given. -/
inductive Instr where
  /-- `PING`, `0x01` (rule R192). -/
  | ping (id : Byte) (params : List Byte) (resp : Bool)
  /-- `READ`, `0x02`: the expected parameters are `[address, width]` (rules R90, R193). -/
  | read (id : Byte) (params : List Byte) (resp : Bool)
  /-- `WRITE`, `0x03`: the expected parameters are `[address] ++ data` (rules R91, R194). -/
  | write (id : Byte) (params : List Byte) (resp : Bool)
  /-- `REG_WRITE`, `0x04` (rule R195). -/
  | regWrite (id : Byte) (params : List Byte) (resp : Bool)
  /-- `ACTION`, `0x05` (rule R196). -/
  | action (id : Byte) (params : List Byte) (resp : Bool)
  /-- `RESET`, `0x06`: a request to a peripheral, not a reset of the block (rule R197). -/
  | reset (id : Byte) (params : List Byte) (resp : Bool)
  /-- `SYNC_WRITE`, `0x83` (rule R198). -/
  | syncWrite (id : Byte) (params : List Byte) (resp : Bool)
deriving DecidableEq, Repr

/-- A command record on the command port (rules R34, R93). -/
inductive Command where
  /-- `EXEC id, OPC, [p0, p1, ...], resp` / `noresp`; the opcode byte is not checked yet (rule R190). -/
  | exec (id opcode : Byte) (params : List Byte) (resp : Bool)
  /-- `PING id` (rule R173). -/
  | ping (id : Byte)
  /-- `READREG id, address [, fmask]` (rule R171). -/
  | readReg (id address : Byte) (fmask : Option ErrorFlags)
  /-- `WRITEREG id, address, value [, fmask]` (rule R172). -/
  | writeReg (id address : Byte) (value : Rat) (fmask : Option ErrorFlags)
deriving DecidableEq, Repr

end Sys2Proof
end

