-- ==== Sys2Proof/WellFormed.lean ====
section
/-! DEFINITION. The checks on syntax and on the parameters: `10_state.md` rule R31 (descriptors and the table),
`43_instruction_dispatch.md` rule R191 (a command's ID and parameter count). -/

namespace Sys2Proof

/-- `width` as a number of bytes (rule R30). -/
def Width.bytes : Width → Nat
  | .one => 1
  | .two => 2

/-- "For `SignedDirectionBit(b)`, `0 <= b <= 8*width - 1`" (rule R31). -/
def Encoding.fits (e : Encoding) (w : Width) : Bool :=
  match e with
  | .unsigned => true
  | .signedDirectionBit b => decide (b ≤ 8 * w.bytes - 1)

/-- A descriptor is well formed (rule R31); that `width` is 1 or 2 holds by its type. -/
def RegisterDescriptor.wellFormed (d : RegisterDescriptor) : Bool :=
  decide (d.address.toNat + d.width.bytes - 1 ≤ 255) && d.encoding.fits d.width &&
    decide (0 < d.scale) && decide (d.min ≤ d.max)

/-- The table names each address at most once (rule R31). -/
def addressesDistinct : List RegisterDescriptor → Bool
  | [] => true
  | d :: ds => ds.all (fun e => e.address != d.address) && addressesDistinct ds

/-- "`REGTAB` holds only well-formed descriptors, at most one per `address`" (rule R31). -/
def tableWellFormed (t : List RegisterDescriptor) : Bool :=
  t.all RegisterDescriptor.wellFormed && addressesDistinct t

/-- A legal choice of the parameters: a well-formed table and `TIMEOUT_TICKS >= 1` (rules R7, R29, R31). -/
def Params.wellFormed (p : Params) : Bool :=
  tableWellFormed p.regTab && decide (1 ≤ p.timeoutTicks)

/-- A raw command's operands pass the checks 2 and 3 of rule R191: the ID is not 255 and at most 253 parameters. -/
def operandsWellFormed (id : Byte) (params : List Byte) : Bool :=
  id != Config.illegalId && decide (params.length ≤ Config.maxParams)

/-- An instruction that the dispatcher accepts (rule R191; check 1, the opcode, holds by its type). -/
def Instr.wellFormed : Instr → Bool
  | .ping id ps _ => operandsWellFormed id ps
  | .read id ps _ => operandsWellFormed id ps
  | .write id ps _ => operandsWellFormed id ps
  | .regWrite id ps _ => operandsWellFormed id ps
  | .action id ps _ => operandsWellFormed id ps
  | .reset id ps _ => operandsWellFormed id ps
  | .syncWrite id ps _ => operandsWellFormed id ps

end Sys2Proof
end

