-- ==== Sys2Proof/Decode.lean ====
section
/-! DEFINITION. Decoding and encoding: the opcode map of `30_encoding.md` rule R84, the frame of rules R80 to R86,
the checksum of `40_packet_codec.md` rule R113, the decoder from bytes to an instruction, and the encoder. -/

namespace Sys2Proof

/-! ## Byte sequences (rule R9) -/

/-- `s[i]`, zero based; the rules read only indices below `len(s)` (rule R9). -/
def byteAt (s : List Byte) (i : Nat) : Byte := s.getD i 0

/-- `s[i..j]`, both ends INCLUSIVE, empty when `j < i` (rule R9). -/
def slice (s : List Byte) (i j : Nat) : List Byte := (s.drop i).take (j + 1 - i)

/-- `sum(s)`, the unbounded integer sum of the elements (rule R9). -/
def sumBytes : List Byte → Nat
  | [] => 0
  | b :: bs => b.toNat + sumBytes bs

/-- `Checksum(bytes) = (~(sum(bytes))) & 0xFF` (rule R113). -/
def checksum (bytes : List Byte) : Byte := ~~~ (BitVec.ofNat 8 (sumBytes bytes))

/-! ## The request frame -/

/-- The length field, `len(parameters) + 2` (rules R82, R112). -/
def lengthField (params : List Byte) : Byte := BitVec.ofNat 8 (params.length + 2)

/-- `Encode(id, instruction, parameters)` (rules R80, R110, R114): it does not look at the value of `id` or of the
instruction byte. -/
def encodeRequest (id instruction : Byte) (params : List Byte) : List Byte :=
  [Config.sync0, Config.sync1, id, lengthField params, instruction] ++ params ++
    [checksum ([id, lengthField params, instruction] ++ params)]

/-- Verification 1, "the two sync bytes at offset 0" (rule R117). -/
def hasSync (raw : List Byte) : Bool :=
  decide (2 ≤ raw.length) && (byteAt raw 0 == Config.sync0) && (byteAt raw 1 == Config.sync1)

/-- Verification 2: four bytes at least, a length field of at least 2 that equals the remaining byte count
(rules R82, R118). -/
def lengthAgrees (raw : List Byte) : Bool :=
  decide (4 ≤ raw.length) && decide (2 ≤ (byteAt raw 3).toNat) &&
    decide (raw.length - 4 = (byteAt raw 3).toNat)

/-- Verification 4: the checksum over `raw[2 .. last-1]` is `raw[last]` (rule R120). -/
def checksumAgrees (raw : List Byte) : Bool :=
  checksum (slice raw 2 (raw.length - 2)) == byteAt raw (raw.length - 1)

/-- The bytes between byte 4 and the checksum: a request's parameters, a response's payload
(rules R80, R81, R121). -/
def frameBody (raw : List Byte) : List Byte := slice raw 5 (raw.length - 2)

/-! ## From a command record to an instruction -/

/-- The opcode map (rules R84, R85): the whole byte is the opcode, every other value is illegal. -/
def decodeCommand (id opcode : Byte) (params : List Byte) (resp : Bool) : Option Instr :=
  if opcode = Config.opPing then some (.ping id params resp)
  else if opcode = Config.opRead then some (.read id params resp)
  else if opcode = Config.opWrite then some (.write id params resp)
  else if opcode = Config.opRegWrite then some (.regWrite id params resp)
  else if opcode = Config.opAction then some (.action id params resp)
  else if opcode = Config.opReset then some (.reset id params resp)
  else if opcode = Config.opSyncWrite then some (.syncWrite id params resp)
  else none

/-! ## From bytes to an instruction -/

/-- Why a byte sequence is no request frame. -/
inductive DecodeError where
  /-- The sync bytes are absent (rule R80). -/
  | noSync
  /-- The length field does not describe the bytes that follow it (rule R82). -/
  | malformedLength
  /-- The last byte is not the checksum (rule R83). -/
  | checksumMismatch
  /-- ID `0xFF`, "illegal" (rule R95). -/
  | illegalId
  /-- "No other values are legal on this protocol" (rule R85). -/
  | illegalOpcode
deriving DecidableEq, Repr

/-- Read a request frame back (rules R80 to R86, R95). The frame does not carry the expect-response flag of the
command (rule R190), so it is given beside the bytes. Total on any bytes, rejecting by name. -/
def decodeFrame (resp : Bool) (raw : List Byte) : Except DecodeError Instr :=
  if hasSync raw = false then .error .noSync
  else if lengthAgrees raw = false then .error .malformedLength
  else if checksumAgrees raw = false then .error .checksumMismatch
  else if byteAt raw 2 = Config.illegalId then .error .illegalId
  else match decodeCommand (byteAt raw 2) (byteAt raw 4) (frameBody raw) resp with
    | none => .error .illegalOpcode
    | some i => .ok i

/-- The instruction the decoder reads from a table word: the table's 8 bits are the instruction byte, byte 4 of the
frame (rule R84, `opcode_table.json`); every operand bit is 0, so the ID is 0, there are no parameters and no response
is expected. -/
def decodeTableWord (nbits w : Nat) : Option Instr :=
  if nbits = 8 ∧ w < 256 then
    match decodeFrame false (encodeRequest 0 (BitVec.ofNat 8 w) []) with
    | .ok i => some i
    | .error _ => none
  else none

/-! ## The encoder, written from the same tables -/

/-- Target ID of an instruction (rule R190). -/
def Instr.id : Instr → Byte
  | .ping id _ _ => id
  | .read id _ _ => id
  | .write id _ _ => id
  | .regWrite id _ _ => id
  | .action id _ _ => id
  | .reset id _ _ => id
  | .syncWrite id _ _ => id

/-- Opcode byte of an instruction (rule R84). -/
def Instr.opcode : Instr → Byte
  | .ping .. => Config.opPing
  | .read .. => Config.opRead
  | .write .. => Config.opWrite
  | .regWrite .. => Config.opRegWrite
  | .action .. => Config.opAction
  | .reset .. => Config.opReset
  | .syncWrite .. => Config.opSyncWrite

/-- Parameter bytes of an instruction (rule R190). -/
def Instr.params : Instr → List Byte
  | .ping _ ps _ => ps
  | .read _ ps _ => ps
  | .write _ ps _ => ps
  | .regWrite _ ps _ => ps
  | .action _ ps _ => ps
  | .reset _ ps _ => ps
  | .syncWrite _ ps _ => ps

/-- Expect-response flag of an instruction as the client gives it (rule R190). -/
def Instr.resp : Instr → Bool
  | .ping _ _ r => r
  | .read _ _ r => r
  | .write _ _ r => r
  | .regWrite _ _ r => r
  | .action _ _ r => r
  | .reset _ _ r => r
  | .syncWrite _ _ r => r

/-- The request frame of an instruction (rule R80). -/
def encode (i : Instr) : List Byte := encodeRequest i.id i.opcode i.params

/-- `EXEC id, READ, [address, width], resp` (rules R90, R193). -/
def Instr.readOf (id address width : Byte) (resp : Bool) : Instr := .read id [address, width] resp

/-- `EXEC id, WRITE, [address] ++ data, resp` (rules R91, R194). -/
def Instr.writeOf (id address : Byte) (data : List Byte) (resp : Bool) : Instr := .write id (address :: data) resp

end Sys2Proof
end

