-- ==== Sys2Proof/Machine/State.lean ====
section
/-! DEFINITION. The machine's state as plain data: every register of `10_state.md`, and the model's own fields for
what stands outside the block; the outcomes' reasons; the state after reset. -/

namespace Sys2Proof.Machine

/-! ## Types of the registers -/

/-- `comm_result` (`60_exceptions.md` rule R231). -/
inductive CommResult where
  | success | timeout | checksumMismatch | idMismatch | malformedLength
deriving DecidableEq, Repr

/-- The kinds of validation error (`60_exceptions.md` rule R232). -/
inductive ValidationKind where
  | outOfRange | invalidId | illegalOpcode | paramsTooLong
  | unknownRegister | readOnlyRegister | notRepresentable
deriving DecidableEq, Repr

/-- `TransactionResult` (`10_state.md` rule R23). -/
structure TransactionResult where
  comm : CommResult
  status : Byte
  flags : ErrorFlags
  payload : List Byte
deriving DecidableEq, Repr

/-- `t_result` (`42_register_access.md` rule R160). -/
inductive TypedResult where
  | raw
  | value (v : Rat)
  | ok
  | present (b : Bool)
  | validationError (k : ValidationKind)
  /-- The communication result is never `Success` (rule R160; invariant `State.Inv`). -/
  | commError (c : CommResult)
  | deviceError (flags : ErrorFlags)
  | payloadWidthMismatch (m : Nat)
deriving DecidableEq, Repr

/-- `t_kind`, the command form in progress (`10_state.md` rule R24). -/
inductive CommandKind where
  | raw | ping | readReg | writeReg
deriving DecidableEq, Repr

/-- `ses` (`10_state.md` rule R26). -/
inductive Session where
  | idle | send | recv
deriving DecidableEq, Repr

/-! ## What the outside agents do (`10_state.md` rule R34, `70_reset_and_hazards.md` rule R273) -/

/-- The client's act at one step: it is a "single logical thread of control" (`60_exceptions.md` rule R247), so at
most one of its liberties of rule R273. -/
inductive ClientAct where
  /-- Nothing. -/
  | quiet
  /-- `cmd_valid` with `cmd`; a client whose command waits presents it again at the next step (rule R131). -/
  | present (c : Command)
  /-- `open_req(baud)` (rule R147). -/
  | openReq (baud : Nat)
  /-- `close_req` (rule R147). -/
  | closeReq
  /-- Read the result registers: allowed "only while `r_valid = 1`" (rule R273). -/
  | readResult
  /-- `rst` (rule R260). -/
  | reset
deriving DecidableEq, Repr

/-- The input side of the ports at one step (rule R34). -/
structure PortInputs where
  client : ClientAct
  /-- Whether the transport, asked to open at this step, can (rule R147). -/
  canOpen : Bool
  /-- `tx_ready`: the transport takes the next transmit byte (rule R132). -/
  txReady : Bool
  /-- `rx_valid` with `rx_data`: a delivered byte, any value (rules R57, R135). -/
  rx : Option Byte
  /-- `tick` (rule R140). -/
  tick : Bool
deriving DecidableEq, Repr

/-- A step at which no outside agent does anything. -/
def PortInputs.quiet : PortInputs :=
  { client := .quiet, canOpen := true, txReady := false, rx := none, tick := false }

/-- What the block asks of the transport (`60_exceptions.md` rule R246). -/
inductive TransportCall where
  /-- `open` "at a given baud rate". -/
  | openAt (baud : Nat)
  /-- `Tx(b)`. -/
  | write (b : Byte)
  /-- `close()`. -/
  | close
deriving DecidableEq, Repr

/-! ## The state -/

/-- The state of one instance of the block. A register pair "array and length" of the spec is one list, whose length
is the length register (log 3). -/
structure State where
  /-- `c_id` (rule R22). -/
  cId : Byte
  /-- `c_op` (rule R22). -/
  cOp : Byte
  /-- `c_param[0 .. c_plen-1]`; `c_plen` is its length (rule R22). -/
  cParam : List Byte
  /-- `c_expect`, the effective expect-response flag (rules R22, R199). -/
  cExpect : Bool
  /-- `r_valid` (rule R23). -/
  rValid : Bool
  /-- `r_comm` (rule R23). -/
  rComm : CommResult
  /-- `r_status` (rule R23). -/
  rStatus : Byte
  /-- `r_flags` (rules R23, R28). -/
  rFlags : ErrorFlags
  /-- `r_payload[0 .. r_plen-1]`; `r_plen` is its length (rule R23). -/
  rPayload : List Byte
  /-- `t_kind` (rule R24). -/
  tKind : CommandKind
  /-- `t_desc` (rule R24). -/
  tDesc : RegisterDescriptor
  /-- `t_fmask` (rule R24). -/
  tFmask : ErrorFlags
  /-- `t_result` (rules R24, R160). -/
  tResult : TypedResult
  /-- `txb[0 .. tx_len-1]`; `tx_len` is its length (rule R25). -/
  txb : List Byte
  /-- `tx_i` (rule R25). -/
  txI : Nat
  /-- `rxb[0 .. rx_len-1]`; `rx_len` is its length (rule R25). -/
  rxb : List Byte
  /-- `ses` (rule R26). -/
  ses : Session
  /-- `link_open` (rule R29). -/
  linkOpen : Bool
  /-- `timer` (rule R29). -/
  timer : Nat
  /-- The MODEL's: the `r_*` registers hold the result of the command that ended last; false where rule R160 says that
  they "hold nothing meaningful" (log 5). -/
  rMeaning : Bool
  /-- The MODEL's: what the outside agents do at the coming steps (log 1). -/
  inputs : List PortInputs
  /-- The MODEL's: what the block has asked of the transport, oldest first (log 6). -/
  wire : List TransportCall
deriving DecidableEq, Repr

/-- `c_plen` (rule R22). -/
def State.cPlen (s : State) : Nat := s.cParam.length
/-- `r_plen` (rule R23). -/
def State.rPlen (s : State) : Nat := s.rPayload.length
/-- `tx_len` (rule R25). -/
def State.txLen (s : State) : Nat := s.txb.length
/-- `rx_len` (rule R25). -/
def State.rxLen (s : State) : Nat := s.rxb.length

/-- Why the machine stops. -/
inductive Fault where
  /-- Raised by `stepWith` when the client reads the result registers while `r_valid = 0`: "not readable while
  `r_valid = 0`" (rule R33), "`fault` on read" (`93_implementation_defined.md` U17). Safe: the model stops where the
  spec gives the read no value. -/
  | resultNotReadable
deriving DecidableEq, Repr

/-- Why an instruction has no meaning. -/
inductive Refusal where
  /-- Raised by an arm of `exec` without a meaning; no arm is left. Safe: nothing can be proved of it. -/
  | notModelled (mnemonic : String)
deriving DecidableEq, Repr

/-- No flag set, `{}`. -/
def noFlags : ErrorFlags :=
  { voltage := false, sensor := false, temperature := false, current := false, angle := false, overload := false }

/-- The descriptor that `t_desc` holds after reset: the spec gives none (rule R33), DESIGN CHOICE, log 2. -/
def resetDescriptor : RegisterDescriptor :=
  { address := 0, width := .one, storage := .eeprom, access := .readOnly, encoding := .unsigned,
    scale := 1, min := 0, max := 0 }

/-- The machine right after reset (`10_state.md` rule R33, `70_reset_and_hazards.md` rule R260). The registers that
the rule leaves "unspecified" hold the values of log 2 (DESIGN CHOICE). -/
def State.reset : State :=
  { cId := 0, cOp := 0, cParam := [], cExpect := false
    rValid := false, rComm := .success, rStatus := 0, rFlags := noFlags, rPayload := []
    tKind := .raw, tDesc := resetDescriptor, tFmask := noFlags, tResult := .raw
    txb := [], txI := 0, rxb := []
    ses := .idle, linkOpen := false, timer := 0
    rMeaning := false, inputs := [], wire := [] }

end Sys2Proof.Machine
end

