-- ==== Sys2Proof/Machine/Flags.lean ====
section
/-! DEFINITION. The error flags: the bit of each in the status byte (`30_encoding.md` rule R92), the decode, and the
relevant-flag mask (`42_register_access.md` rule R177). -/

namespace Sys2Proof.Machine

/-- `ERRBIT` as rule R92 assigns it, in the listing order of the flags (decision D2; log 7). -/
def errBitListing : ErrBit :=
  { voltage := 0, sensor := 1, temperature := 2, current := 3, angle := 4, overload := 5 }

/-- `FlagDecode` (rules R92, R121): each flag is its bit of the status byte; the other bits decode to no flag. -/
def flagDecode (eb : ErrBit) (status : Byte) : ErrorFlags :=
  { voltage := status.getLsbD eb.voltage.val
    sensor := status.getLsbD eb.sensor.val
    temperature := status.getLsbD eb.temperature.val
    current := status.getLsbD eb.current.val
    angle := status.getLsbD eb.angle.val
    overload := status.getLsbD eb.overload.val }

/-- Whether a flag is in a set of flags. -/
def hasFlag (fs : ErrorFlags) : ErrorFlag → Bool
  | .voltage => fs.voltage
  | .sensor => fs.sensor
  | .temperature => fs.temperature
  | .current => fs.current
  | .angle => fs.angle
  | .overload => fs.overload

/-- `error_flags & fmask != {}` (rules R171, R172, R177). -/
def flagsMeet (fs mask : ErrorFlags) : Bool :=
  (fs.voltage && mask.voltage) || (fs.sensor && mask.sensor) || (fs.temperature && mask.temperature) ||
    (fs.current && mask.current) || (fs.angle && mask.angle) || (fs.overload && mask.overload)

end Sys2Proof.Machine
end

