-- ==== Sys2Proof/Machine/Codec.lean ====
section
/-! DEFINITION. The response side of the Packet Codec: `Decode` (`40_packet_codec.md` rules R116 to R123) and the
test for a full frame (`41_transport_session.md` rule R136). -/

namespace Sys2Proof.Machine

/-- `Fail(c)`: status 0, no flag, no payload (rule R122). -/
def failResult (c : CommResult) : TransactionResult :=
  { comm := c, status := 0, flags := noFlags, payload := [] }

/-- `Decode(raw, expected_id)` (rule R116): sync, length, ID, checksum, in this order. -/
def decodeResponse (eb : ErrBit) (raw : List Byte) (expectedId : Byte) : TransactionResult :=
  if hasSync raw = false then failResult .malformedLength
  else if lengthAgrees raw = false then failResult .malformedLength
  else if byteAt raw 2 ≠ expectedId then failResult .idMismatch
  else if checksumAgrees raw = false then failResult .checksumMismatch
  else { comm := .success, status := byteAt raw 4, flags := flagDecode eb (byteAt raw 4), payload := frameBody raw }

/-- `Complete(rxb)`: "a full frame is available" looks at the count and the length byte only (rule R136). -/
def frameComplete (rxb : List Byte) : Bool :=
  decide (4 ≤ rxb.length) && decide (rxb.length = 4 + (byteAt rxb 3).toNat)

/-- The 3-bit code of a `comm_result` (`60_exceptions.md` rule R231). -/
def commCode : CommResult → BitVec 3
  | .success => 0
  | .timeout => 1
  | .checksumMismatch => 2
  | .idMismatch => 3
  | .malformedLength => 4

end Sys2Proof.Machine
end

