-- ==== Sys2Proof/Machine/Operands.lean ====
section
/-! DEFINITION. The value codec of `42_register_access.md` rules R161 to R170: little-endian assembly, the direction
bit, exact scaling, and their inverses. -/

namespace Sys2Proof.Machine

/-! ## Decode -/

/-- `Assemble`: little-endian, the first byte is the low byte (rules R87, R162). -/
def assemble : List Byte → Nat
  | [] => 0
  | b :: bs => b.toNat + 256 * assemble bs

/-- `SmDecode(raw, b)`: bit `b` set means negative, every other bit is magnitude (rule R164, `90_conflicts.md` C6). -/
def smDecode (raw b : Nat) : Int := if raw.testBit b then -(((raw - 2 ^ b : Nat)) : Int) else (raw : Int)

/-- The signed integer of a raw field (rules R163, R164). -/
def rawToInt (e : Encoding) (raw : Nat) : Int :=
  match e with
  | .unsigned => (raw : Int)
  | .signedDirectionBit b => smDecode raw b

/-- `DecodeValue(desc, payload)`, used only when `len(payload) = desc.width` (rules R161, R165): an exact product. -/
def decodeValue (d : RegisterDescriptor) (payload : List Byte) : Rat :=
  ((rawToInt d.encoding (assemble payload) : Int) : Rat) * d.scale

/-! ## Encode -/

/-- The raw field of an integer, or none where it does not fit (rules R168, R169): zero has the direction bit clear,
and bits above the direction bit are 0. -/
def intToRaw (e : Encoding) (w : Width) (q : Int) : Option Nat :=
  match e with
  | .unsigned => if 0 ≤ q ∧ q.toNat < 2 ^ (8 * w.bytes) then some q.toNat else none
  | .signedDirectionBit b =>
    if q.natAbs < 2 ^ b then some (q.natAbs + if q < 0 then 2 ^ b else 0) else none

/-- `Split(raw, width)`, low byte first (rule R170). -/
def splitRaw (w : Width) (raw : Nat) : List Byte :=
  match w with
  | .one => [BitVec.ofNat 8 raw]
  | .two => [BitVec.ofNat 8 raw, BitVec.ofNat 8 (raw / 256)]

/-- `EncodeValue(desc, value)` (rules R166 to R170): range, exact inverse scale, representability, split. -/
def encodeValue (d : RegisterDescriptor) (value : Rat) : Except ValidationKind (List Byte) :=
  if value < d.min ∨ d.max < value then .error .outOfRange
  else if (value / d.scale).den ≠ 1 then .error .notRepresentable
  else match intToRaw d.encoding d.width (value / d.scale).num with
    | none => .error .notRepresentable
    | some raw => .ok (splitRaw d.width raw)

end Sys2Proof.Machine
end

