-- ==== Sys2Proof/Machine/Ops.lean ====
section
/-! DEFINITION. The named operations that every command goes through: acceptance (`41_transport_session.md` rule
R131), taking a failure (`60_exceptions.md` rule R240), the end of a transaction (rule R240), the client's view of the
results (`10_state.md` rule R23), reset (`70_reset_and_hazards.md` rule R260). -/

namespace Sys2Proof.Machine

/-- `cmd_ready = (ses == IDLE) and link_open` (`10_state.md` rule R34). -/
def State.cmdReady (s : State) : Bool := s.ses == .idle && s.linkOpen

/-- The port inputs of this step: the head of `inputs`, or nothing at all when it is empty (log 1). -/
def State.port (s : State) : PortInputs := s.inputs.headD PortInputs.quiet

/-- `inputs` after this step's are served. -/
def popInputs (s : State) : State := { s with inputs := s.inputs.tail }

/-! ## Acceptance -/

/-- `c_expect = expect_response and (id != 254)` (`43_instruction_dispatch.md` rule R199). -/
def effectiveExpect (id : Byte) (resp : Bool) : Bool := resp && id != Config.broadcastId

/-- Acceptance, `IDLE -> SEND` (rule R131), of a command of form `kind`; `t_desc` and `t_fmask` are latched by
`latchTyped`. `r_comm` and `r_flags` are cleared (`10_state.md` rule R28); that a cleared `r_comm` holds code 0 is a
DESIGN CHOICE (log 16). -/
def startTransaction (kind : CommandKind) (id opcode : Byte) (ps : List Byte) (resp : Bool) (s : State) : State :=
  { s with
    cId := id, cOp := opcode, cParam := ps, cExpect := effectiveExpect id resp
    txb := encodeRequest id opcode ps, txI := 0, rxb := [], timer := 0
    rValid := false, rComm := .success, rFlags := noFlags
    tKind := kind, ses := .send }

/-- The Register Access Layer's latch (`10_state.md` rule R24). -/
def latchTyped (d : RegisterDescriptor) (fmask : ErrorFlags) (s : State) : State :=
  { s with tDesc := d, tFmask := fmask }

/-! ## Taking a failure, and the end of a transaction -/

/-- `raise ValidationError(k)`: the failure entry of rule R240. Nothing is vectored; `ses` stays as it is and the `r_*`
registers are not written. -/
def raiseValidation (k : ValidationKind) (s : State) : State :=
  { s with tResult := .validationError k, rValid := true, rMeaning := false }

/-- `t_result <- Present(false)` without bus traffic (`42_register_access.md` rule R173): the `r_*` registers are not
written (rule R160). -/
def endAbsent (s : State) : State :=
  { s with tResult := .present false, rValid := true, rMeaning := false }

/-- The interpretation of a transaction's result by the command form (rules R171, R172, R173, R190; the order of the
tests is rule R236). -/
def interpretResult (kind : CommandKind) (d : RegisterDescriptor) (fmask : ErrorFlags) (res : TransactionResult) :
    TypedResult :=
  match kind with
  | .raw => .raw
  | .ping => .present (res.comm == .success)
  | .readReg =>
    if res.comm ≠ .success then .commError res.comm
    else if flagsMeet res.flags fmask then .deviceError res.flags
    else if res.payload.length ≠ d.width.bytes then .payloadWidthMismatch res.payload.length
    else .value (decodeValue d res.payload)
  | .writeReg =>
    if res.comm ≠ .success then .commError res.comm
    else if flagsMeet res.flags fmask then .deviceError res.flags
    else .ok

/-- The end of a transaction, success or communication failure (rule R240): the result registers take the
`TransactionResult`, `t_result` its interpretation, and the block is back in `IDLE`, which is all the return there is
(rule R242). -/
def endTransaction (res : TransactionResult) (s : State) : State :=
  { s with
    rComm := res.comm, rStatus := res.status, rFlags := res.flags, rPayload := res.payload
    tResult := interpretResult s.tKind s.tDesc s.tFmask res
    rValid := true, rMeaning := true, ses := .idle }

/-! ## The result port -/

/-- The `TransactionResult` that the result registers hold (rule R23). -/
def State.transaction (s : State) : TransactionResult :=
  { comm := s.rComm, status := s.rStatus, flags := s.rFlags, payload := s.rPayload }

/-- What a client reads of the typed result: nothing while `r_valid = 0` (rules R24, R33). -/
def readTypedResult (s : State) : Option TypedResult := if s.rValid then some s.tResult else none

/-- What a client reads of the `r_*` registers: nothing while `r_valid = 0` (rule R33), and nothing where the command
ran no transaction (rule R160). -/
def readTransaction (s : State) : Option TransactionResult :=
  if s.rValid && s.rMeaning then some s.transaction else none

/-! ## Reset -/

/-- `rst` (rule R260): every register as after reset; what stands outside the block, the coming inputs and the bytes
already on the wire, is not changed by it. -/
def resetBlock (s : State) : State := { State.reset with inputs := s.inputs, wire := s.wire }

end Sys2Proof.Machine
end

