-- ==== Sys2Proof/Machine/Parameters.lean ====
section
/-! DEFINITION. The parameters of this instance (`00_scope.md` rule R7): the check at construction
(`10_state.md` rule R31) and the table lookup (`42_register_access.md` rule R174). -/

namespace Sys2Proof.Machine

/-- "A model refuses an ill-formed table at construction" (rule R31); `TIMEOUT_TICKS` is at least 1 (rule R29). -/
def constructParams (p : Params) : Option Params := if p.wellFormed then some p else none

/-- What is offered at process start: the OPEN constants of `Config.lean` and `ERRBIT` of rule R92. -/
def offeredParams : Params :=
  { regTab := Config.regTab, timeoutTicks := Config.timeoutTicks
    fmaskRead := Config.fmaskRead, fmaskWrite := Config.fmaskWrite, errBit := errBitListing }

/-- The parameters of an instance whose offer was refused: no register and the shortest timeout
(DESIGN CHOICE, log 4). -/
def refusedParams : Params :=
  { regTab := [], timeoutTicks := 1
    fmaskRead := Config.fmaskRead, fmaskWrite := Config.fmaskWrite, errBit := errBitListing }

/-- The parameters of this instance: any well-formed choice, fixed for its lifetime (rule R7). -/
def params : Params := (constructParams offeredParams).getD refusedParams

/-- `REGTAB[address]` (rule R174): the descriptor at that address, if the table has one. -/
def lookupRegister (cfg : Params) (address : Byte) : Option RegisterDescriptor :=
  cfg.regTab.find? (fun d => d.address == address)

end Sys2Proof.Machine
end

