-- ==== Sys2Proof/Machine/Session.lean ====
section
/-! DEFINITION. The Transport Session: the transitions of `41_transport_session.md` rules R132 to R141 and R146, and
the link control of rule R147. Acceptance (R131) is `startTransaction` in Ops.lean. -/

namespace Sys2Proof.Machine

/-! ## SEND -/

/-- Transmit (rule R132): `Tx(txb[tx_i])`, `tx_i <- tx_i + 1`. -/
def transmitByte (s : State) : State :=
  { s with wire := s.wire ++ [.write (byteAt s.txb s.txI)], txI := s.txI + 1 }

/-- The result of a command that awaits no response (rule R133). -/
def unawaitedResult : TransactionResult := { comm := .success, status := 0, flags := noFlags, payload := [] }

/-- Start of reception (rule R134). -/
def startReception (s : State) : State := { s with timer := 0, rxb := [], ses := .recv }

/-- One step in `SEND` (rules R132 to R134). A delivered byte or a tick has no effect (rules R140, R141). -/
def sendStep (p : PortInputs) (s : State) : State :=
  if s.txI < s.txLen then (if p.txReady then transmitByte s else s)
  else if s.cExpect then startReception s
  else endTransaction unawaitedResult s

/-! ## RECV -/

/-- Byte arrival (rules R135 to R137): append, and end the transaction when the frame is complete. -/
def receiveByte (cfg : Params) (b : Byte) (s : State) : State :=
  if frameComplete (s.rxb ++ [b]) then
    endTransaction (decodeResponse cfg.errBit (s.rxb ++ [b]) s.cId) { s with rxb := s.rxb ++ [b] }
  else { s with rxb := s.rxb ++ [b] }

/-- What the block answers when the timeout elapses: `Timeout` with nothing received (rule R138), else what `Decode`
makes of the bytes (rule R139). -/
def timeoutResult (cfg : Params) (rxb : List Byte) (id : Byte) : TransactionResult :=
  if rxb = [] then failResult .timeout else decodeResponse cfg.errBit rxb id

/-- The timeout elapses (rules R138, R139). -/
def expire (cfg : Params) (s : State) : State := endTransaction (timeoutResult cfg s.rxb s.cId) s

/-- A tick in `RECV` (rules R138 to R140): the timer counts it, and at `TIMEOUT_TICKS` the timeout elapses. -/
def tickReception (cfg : Params) (s : State) : State :=
  if s.timer + 1 < cfg.timeoutTicks then { s with timer := s.timer + 1 }
  else expire cfg { s with timer := s.timer + 1 }

/-- A delivered byte, if any, in `RECV`. -/
def receivePort (cfg : Params) (rx : Option Byte) (s : State) : State :=
  match rx with
  | some b => receiveByte cfg b s
  | none => s

/-- One step in `RECV`: "the byte is taken first and the tick is examined only if the frame is still incomplete"
(rule R140). -/
def recvStep (cfg : Params) (p : PortInputs) (s : State) : State :=
  if p.tick = true ∧ (receivePort cfg p.rx s).ses = .recv then tickReception cfg (receivePort cfg p.rx s)
  else receivePort cfg p.rx s

/-- The untimed reading of `RECV` (rule R146): one event `timeout`, enabled whenever the frame is incomplete, in place
of the ticks. -/
def recvUntimed (cfg : Params) (rx : Option Byte) (timeout : Bool) (s : State) : State :=
  if timeout = true ∧ (receivePort cfg rx s).ses = .recv then expire cfg (receivePort cfg rx s)
  else receivePort cfg rx s

/-- The session's own step. In `IDLE` a delivered byte is discarded and a tick has no effect (rules R140, R141). -/
def sessionStep (cfg : Params) (p : PortInputs) (s : State) : State :=
  match s.ses with
  | .idle => s
  | .send => sendStep p s
  | .recv => recvStep cfg p s

/-! ## Link control (rule R147) -/

/-- `OPEN` is "accepted only in `IDLE` with `link_open = 0`". -/
def State.openReady (s : State) : Bool := s.ses == .idle && !s.linkOpen

/-- `CLOSE` is "accepted only in `IDLE` with `link_open = 1`". -/
def State.closeReady (s : State) : Bool := s.ses == .idle && s.linkOpen

/-- `OPEN baud`: asks the transport to open; "a transport that cannot open leaves `link_open = 0`". -/
def openLink (baud : Nat) (canOpen : Bool) (s : State) : State :=
  { s with wire := s.wire ++ [.openAt baud], linkOpen := canOpen }

/-- `CLOSE`: asks the transport to close. -/
def closeLink (s : State) : State :=
  { s with wire := s.wire ++ [.close], linkOpen := false }

end Sys2Proof.Machine
end

