-- ==== Sys2Proof/Machine/Opcodes.lean ====
section
/-! DEFINITION. The seven instructions (`43_instruction_dispatch.md` rules R190 to R200). The block treats them alike
but for the opcode byte: it validates, and starts one transaction with the client's parameter bytes unchanged
(rule R201). What a peripheral does with the request is outside the block (`00_scope.md` rule R6). -/

namespace Sys2Proof.Machine

/-- Checks 2 and 3 of rule R191, in its order; check 1, the opcode, was made when the command was decoded. -/
def validateRaw (id : Byte) (ps : List Byte) : Option ValidationKind :=
  if id = Config.illegalId then some .invalidId
  else if ps.length > Config.maxParams then some .paramsTooLong
  else none

/-- `EXEC` with a legal opcode (rule R190): a presented command waits while the port is not ready (rule R131), fails
validation at once (rule R191), or is accepted. -/
def acceptRaw (opcode id : Byte) (ps : List Byte) (resp : Bool) (s : State) : State :=
  if s.cmdReady = false then s
  else match validateRaw id ps with
    | some k => raiseValidation k s
    | none => startTransaction .raw id opcode ps resp s

/-- `PING`, `0x01` (rule R192). -/
def execPing (id : Byte) (ps : List Byte) (resp : Bool) (s : State) : Host.Outcome State Fault Refusal :=
  .next (acceptRaw Config.opPing id ps resp s)

/-- `READ`, `0x02` (rule R193). -/
def execRead (id : Byte) (ps : List Byte) (resp : Bool) (s : State) : Host.Outcome State Fault Refusal :=
  .next (acceptRaw Config.opRead id ps resp s)

/-- `WRITE`, `0x03` (rule R194). -/
def execWrite (id : Byte) (ps : List Byte) (resp : Bool) (s : State) : Host.Outcome State Fault Refusal :=
  .next (acceptRaw Config.opWrite id ps resp s)

/-- `REG_WRITE`, `0x04` (rule R195): sent with the client's parameters unchanged. -/
def execRegWrite (id : Byte) (ps : List Byte) (resp : Bool) (s : State) : Host.Outcome State Fault Refusal :=
  .next (acceptRaw Config.opRegWrite id ps resp s)

/-- `ACTION`, `0x05` (rule R196). -/
def execAction (id : Byte) (ps : List Byte) (resp : Bool) (s : State) : Host.Outcome State Fault Refusal :=
  .next (acceptRaw Config.opAction id ps resp s)

/-- `RESET`, `0x06` (rule R197): a request to a peripheral; "it does not reset the block". -/
def execReset (id : Byte) (ps : List Byte) (resp : Bool) (s : State) : Host.Outcome State Fault Refusal :=
  .next (acceptRaw Config.opReset id ps resp s)

/-- `SYNC_WRITE`, `0x83` (rule R198). -/
def execSyncWrite (id : Byte) (ps : List Byte) (resp : Bool) (s : State) : Host.Outcome State Fault Refusal :=
  .next (acceptRaw Config.opSyncWrite id ps resp s)

end Sys2Proof.Machine
end

