-- ==== Sys2Proof/Machine/Dispatch.lean ====
section
/-! DEFINITION. One arm per instruction. -/

namespace Sys2Proof.Machine

def exec (i : Instr) (s : State) : Host.Outcome State Fault Refusal :=
  match i with
  | .ping id ps resp => Sys2Proof.Machine.execPing id ps resp s
  | .read id ps resp => Sys2Proof.Machine.execRead id ps resp s
  | .write id ps resp => Sys2Proof.Machine.execWrite id ps resp s
  | .regWrite id ps resp => Sys2Proof.Machine.execRegWrite id ps resp s
  | .action id ps resp => Sys2Proof.Machine.execAction id ps resp s
  | .reset id ps resp => Sys2Proof.Machine.execReset id ps resp s
  | .syncWrite id ps resp => Sys2Proof.Machine.execSyncWrite id ps resp s

end Sys2Proof.Machine
end

