-- ==== Sys2Proof/Machine/Typed.lean ====
section
/-! DEFINITION. The typed commands of `42_register_access.md`: what each checks before any bus I/O (rule R175), and the
one transaction it starts (`30_encoding.md` rule R94). -/

namespace Sys2Proof.Machine

/-- `PING id` (rule R173): an ID above 253 ends `Present(false)` without bus traffic. -/
def acceptPing (id : Byte) (s : State) : State :=
  if s.cmdReady = false then s
  else if Config.maxUnicastId.toNat < id.toNat then endAbsent s
  else startTransaction .ping id Config.opPing [] true s

/-- `READREG id, address [, fmask]` (rule R171): ID, then lookup. -/
def acceptReadReg (cfg : Params) (id address : Byte) (fmask : Option ErrorFlags) (s : State) : State :=
  if s.cmdReady = false then s
  else if Config.maxUnicastId.toNat < id.toNat then raiseValidation .invalidId s
  else match lookupRegister cfg address with
    | none => raiseValidation .unknownRegister s
    | some d =>
      latchTyped d (fmask.getD cfg.fmaskRead)
        (startTransaction .readReg id Config.opRead [d.address, BitVec.ofNat 8 d.width.bytes] true s)

/-- `WRITEREG id, address, value [, fmask]` (rule R172): ID, lookup, access, range, representability; a broadcast
awaits no response. -/
def acceptWriteReg (cfg : Params) (id address : Byte) (value : Rat) (fmask : Option ErrorFlags) (s : State) : State :=
  if s.cmdReady = false then s
  else if Config.broadcastId.toNat < id.toNat then raiseValidation .invalidId s
  else match lookupRegister cfg address with
    | none => raiseValidation .unknownRegister s
    | some d =>
      if d.access = .readOnly then raiseValidation .readOnlyRegister s
      else match encodeValue d value with
        | .error k => raiseValidation k s
        | .ok data =>
          latchTyped d (fmask.getD cfg.fmaskWrite)
            (startTransaction .writeReg id Config.opWrite (d.address :: data) (id != Config.broadcastId) s)

end Sys2Proof.Machine
end

