-- ==== Sys2Proof/Machine/Cycle.lean ====
section
/-! DEFINITION. One step of the block for any parameters: the command port (`41_transport_session.md` rule R131), the
client's other liberties (`70_reset_and_hazards.md` rule R273), and the session. -/

namespace Sys2Proof.Machine

/-- A command is presented while the port is ready: the raw command is decoded and run (rule R190), an illegal opcode is
`ValidationError(IllegalOpcode)` (rule R200), a typed command is accepted by its own rule. -/
def acceptCommand (cfg : Params) (c : Command) (s : State) : Host.Outcome State Fault Refusal :=
  match c with
  | .exec id opcode ps resp =>
    match decodeCommand id opcode ps resp with
    | some i => exec i s
    | none => .next (raiseValidation .illegalOpcode s)
  | .ping id => .next (acceptPing id s)
  | .readReg id address fmask => .next (acceptReadReg cfg id address fmask s)
  | .writeReg id address value fmask => .next (acceptWriteReg cfg id address value fmask s)

/-- One step with the port inputs `p`. A client's act that is not enabled "has no step" (rule R273), and the session
goes on. -/
def serveInputs (cfg : Params) (p : PortInputs) (s : State) : Host.Outcome State Fault Refusal :=
  match p.client with
  | .quiet => .next (sessionStep cfg p s)
  | .present c => if s.cmdReady then acceptCommand cfg c s else .next (sessionStep cfg p s)
  | .openReq baud => .next (if s.openReady then openLink baud p.canOpen s else sessionStep cfg p s)
  | .closeReq => .next (if s.closeReady then closeLink s else sessionStep cfg p s)
  | .readResult => if s.rValid then .next (sessionStep cfg p s) else .fault .resultNotReadable
  | .reset => .next (resetBlock s)

/-- One step of the block with parameters `cfg` (`10_state.md` rule R20): it serves the head of `inputs`. -/
def stepWith (cfg : Params) (s : State) : Host.Outcome State Fault Refusal :=
  serveInputs cfg s.port (popInputs s)

/-- `n` steps with parameters `cfg`, stopping at a fault or a refusal. -/
def runWith (cfg : Params) : Nat → State → Host.Outcome State Fault Refusal
  | 0, s => .next s
  | n + 1, s =>
    match stepWith cfg s with
    | .next t => runWith cfg n t
    | .fault f => .fault f
    | .refused r => .refused r

/-- A command record presented by the client and nothing else, at one step. -/
def presentInputs (c : Command) : PortInputs := { PortInputs.quiet with client := .present c }

/-- The command whose opcode is the table word `w` and whose every operand bit is 0 (log 11). -/
def tableCommand (w : Nat) : Command := .exec 0 (BitVec.ofNat 8 w) [] false

end Sys2Proof.Machine
end

