-- ==== Sys2Proof/Machine/Step.lean ====
section
/-! DEFINITION. The step of this instance, and how the host places an instruction before it. -/

namespace Sys2Proof.Machine

/-- One step of the block, with the parameters of this instance. -/
def step (s : State) : Host.Outcome State Fault Refusal := stepWith params s

/-- `s` with the table instruction `w` on the command port of the very next step, the session in `IDLE` and the link
open, so that the port is ready (rule R34; log 10). The table gives 8 bits, the opcode byte. -/
def State.withFetchWord (s : State) (nbits w : Nat) : State :=
  { s with
    ses := .idle, linkOpen := true
    inputs := presentInputs (tableCommand (w % 2 ^ nbits)) :: s.inputs }

end Sys2Proof.Machine
end

