-- ==== Sys2Proof/Machine/Client.lean ====
section
/-! DEFINITION. The client sequences of `44_client_sequences.md`: Bus Scanner, Motion Controller, Calibrator. They are
not part of the block (rule R210); each is a program over the block's commands, its parameters those of rule R218. -/

namespace Sys2Proof.Machine

/-- The two registers that can make a position read as 2048 (rule R216): "the 'set current position as 2048 (center)'
torque-switch command" or "the position-correction register". -/
inductive Centring where
  | torqueSwitch
  | positionCorrection
deriving DecidableEq, Repr

/-- The parameters of rule R218, all OPEN, and what rule R216 leaves open (log 12); the tunables are naturals
(`00_scope.md` rule R7). -/
structure ClientParams where
  aAcc : Byte
  aSpeed : Byte
  aGoal : Byte
  aMoving : Byte
  aMode : Byte
  aPos : Byte
  aLoad : Byte
  aOfs : Byte
  aTorque : Byte
  pollInterval : Nat
  moveMaxPolls : Nat
  moveDeadline : Nat
  calDeadline : Nat
  plateauPolls : Nat
  plateauTol : Rat
  calSpeed : Nat
  /-- The flags that fail a read of the calibration; Overload is taken out of it (`calReadMask`). -/
  calMask : ErrorFlags
  /-- Which direction of calibration comes first: "not in DOC0" (rule R216). -/
  firstForward : Bool
  /-- Torque switch or position correction: the choice is "not in DOC0" (rule R216, N12). -/
  centring : Centring
  /-- The value written for the midpoint: "not in DOC0" (rule R216, N12). -/
  centringValue : Rat → Rat

/-- What a client sees when a command has ended: its results, and the injected time source (rule R217). -/
structure ClientView where
  result : TypedResult
  transaction : Option TransactionResult
  now : Nat
deriving DecidableEq, Repr

/-- One command of a client: the cancellation signal as sampled just before the command, after the sleep (rules R212,
R217), and what the client sees at its end if the command is issued. -/
structure ClientTurn extends ClientView where
  cancel : Bool
deriving DecidableEq, Repr

/-- A client program: the time to sleep and the next command, none when the program has ended; where it goes when it
finds the cancellation signal before that command; and how it goes on when the command has ended. -/
structure ClientProgram (σ : Type) where
  action : σ → Option (Nat × Command)
  cancelled : σ → σ
  resume : σ → ClientView → σ

/-- The sampling of the cancellation signal just before a command. -/
def ClientProgram.sample {σ : Type} (prog : ClientProgram σ) (c : σ) (cancel : Bool) : σ :=
  if cancel then prog.cancelled c else c

/-- The program's state after the turns `ts`, oldest first. -/
def ClientProgram.run {σ : Type} (prog : ClientProgram σ) : σ → List ClientTurn → σ
  | c, [] => c
  | c, t :: ts =>
    match prog.action (prog.sample c t.cancel) with
    | none => prog.sample c t.cancel
    | some _ => prog.run (prog.resume (prog.sample c t.cancel) t.toClientView) ts

/-- The commands the program issues along the turns `ts`. -/
def ClientProgram.issued {σ : Type} (prog : ClientProgram σ) : σ → List ClientTurn → List Command
  | _, [] => []
  | c, t :: ts =>
    match prog.action (prog.sample c t.cancel) with
    | none => []
    | some a => a.2 :: prog.issued (prog.resume (prog.sample c t.cancel) t.toClientView) ts

/-! ## Bus Scanner (rule R211) -/

/-- `Scan(lo, hi)` under way: the next ID and the IDs found, in ascending order. -/
structure ScanState where
  next : Nat
  hi : Nat
  found : List Nat
deriving DecidableEq, Repr

/-- `Scan(lo, hi)` at its start; an ID is a `u8`, so a range reaching above 255 is cut there. -/
def scanStart (lo hi : Nat) : ScanState := { next := lo, hi := min hi 255, found := [] }

/-- `Scan` with its default range, `id_range = 0..253` (rule R211). -/
def scanDefault : ScanState := scanStart 0 Config.maxUnicastId.toNat

/-- `Scan(lo, hi)`: one `PING` an ID, ascending, each complete before the next. -/
def scanProgram : ClientProgram ScanState :=
  { action := fun c => if c.next ≤ c.hi then some (0, .ping (BitVec.ofNat 8 c.next)) else none
    cancelled := fun c => c
    resume := fun c v =>
      { c with
        next := c.next + 1
        found := if v.result = .present true then c.found ++ [c.next] else c.found } }

/-! ## Motion Controller (rules R212 to R215) -/

/-- The operands of `MoveTo`. -/
structure MoveRequest where
  id : Byte
  position : Rat
  speed : Rat
  acceleration : Rat
  wait : Bool
deriving DecidableEq, Repr

/-- How `MoveTo` ends. -/
inductive MoveOutcome where
  /-- All three writes ended `Ok` and no wait was requested. -/
  | ok
  | reached
  | timedOut
  | cancelled
  /-- A write or a poll did not end as it should; the `CommError` state of rule R213 (decision D29). -/
  | failed (r : TypedResult)
deriving DecidableEq, Repr

/-- `MoveTo` under way; `Issued` of rule R213 is the first three. -/
inductive MoveState where
  | stageAcceleration
  | stageSpeed
  | issuePosition
  | polling (polls : Nat)
  | ended (o : MoveOutcome)
deriving DecidableEq, Repr

/-- "Acceleration register, then speed register, then target-position register", then the polls (rule R212). -/
def moveAction (p : ClientParams) (m : MoveRequest) (c : MoveState) : Option (Nat × Command) :=
  match c with
  | .stageAcceleration => some (0, .writeReg m.id p.aAcc m.acceleration none)
  | .stageSpeed => some (0, .writeReg m.id p.aSpeed m.speed none)
  | .issuePosition => some (0, .writeReg m.id p.aGoal m.position none)
  | .polling n => some (if n = 0 then 0 else p.pollInterval, .readReg m.id p.aMoving none)
  | .ended _ => none

/-- After a poll that read `x` as the `n`-th (rule R212): stopped, out of polls or time, or once more after a sleep. -/
def movePolled (p : ClientParams) (n : Nat) (x : Rat) (v : ClientView) : MoveState :=
  if x = 0 then .ended .reached
  else if n = p.moveMaxPolls ∨ p.moveDeadline ≤ v.now then .ended .timedOut
  else .polling n

/-- "if cancel: return Cancelled" at the top of the polling loop, after the sleep and just before the read (rule R212). -/
def moveCancelled (c : MoveState) : MoveState :=
  match c with
  | .stageAcceleration => .stageAcceleration
  | .stageSpeed => .stageSpeed
  | .issuePosition => .issuePosition
  | .polling _ => .ended .cancelled
  | .ended o => .ended o

/-- The state machine of rule R213, with the staging writes before it (rule R212, decision D29). -/
def moveResume (p : ClientParams) (m : MoveRequest) (c : MoveState) (v : ClientView) : MoveState :=
  match c with
  | .stageAcceleration => if v.result = .ok then .stageSpeed else .ended (.failed v.result)
  | .stageSpeed => if v.result = .ok then .issuePosition else .ended (.failed v.result)
  | .issuePosition =>
    if v.result ≠ .ok then .ended (.failed v.result)
    else if m.wait = false then .ended .ok
    else .polling 0
  | .polling n =>
    match v.result with
    | .value x => movePolled p (n + 1) x v
    | r => .ended (.failed r)
  | .ended o => .ended o

/-- `MoveTo(id, position, speed, acceleration, wait)`. -/
def moveProgram (p : ClientParams) (m : MoveRequest) : ClientProgram MoveState :=
  { action := moveAction p m, cancelled := moveCancelled, resume := moveResume p m }

/-- What `Rotate` returns: the mode write's result, its `TransactionResult` (comm result and flags), and the speed
write's result where it was issued (rule R214). -/
structure RotateOutcome where
  mode : TypedResult
  modeTransaction : Option TransactionResult
  speed : Option TypedResult
deriving DecidableEq, Repr

/-- `Rotate` under way. -/
inductive RotateState where
  | writeMode
  | writeSpeed (mode : TypedResult) (modeTransaction : Option TransactionResult)
  | ended (o : RotateOutcome)
deriving DecidableEq, Repr

/-- "Switches the servo into constant-speed mode (mode register = 1) and writes the signed speed register"
(rule R214). -/
def rotateAction (p : ClientParams) (id : Byte) (speed : Rat) (c : RotateState) : Option (Nat × Command) :=
  match c with
  | .writeMode => some (0, .writeReg id p.aMode 1 none)
  | .writeSpeed _ _ => some (0, .writeReg id p.aSpeed speed none)
  | .ended _ => none

/-- The speed write is skipped when the mode write fails (decision D29). -/
def rotateResume (c : RotateState) (v : ClientView) : RotateState :=
  match c with
  | .writeMode =>
    if v.result = .ok then .writeSpeed v.result v.transaction
    else .ended { mode := v.result, modeTransaction := v.transaction, speed := none }
  | .writeSpeed r t => .ended { mode := r, modeTransaction := t, speed := some v.result }
  | .ended o => .ended o

/-- `Rotate(id, speed)`. -/
def rotateProgram (p : ClientParams) (id : Byte) (speed : Rat) : ClientProgram RotateState :=
  { action := rotateAction p id speed, cancelled := fun c => c, resume := rotateResume }

/-- `WritePosition(id, p)` is `WRITEREG id, A_GOAL, p` (rule R215). -/
def writePosition (p : ClientParams) (id : Byte) (position : Rat) : Command := .writeReg id p.aGoal position none

/-! ## Calibrator (rules R215, R216) -/

/-- The single-direction stall search, `GetBlockingPosition` (rules R215, R216 steps 2 to 4): positions newest first,
and `began`, the time from which `CAL_DEADLINE` is counted. -/
inductive BlockState where
  | readPosition (history : List Rat) (began : Nat)
  | readLoad (history : List Rat) (began : Nat) (position : Rat)
  | stalled (position : Rat)
  | deadline
  | cancelled
  | failed (r : TypedResult)
deriving DecidableEq, Repr

/-- "The position differs by at most `PLATEAU_TOL` over `PLATEAU_POLLS` consecutive polls" (rule R216): any two of those
polls' positions do. DEDUCED (log 12): not only neighbouring ones. -/
def plateau (p : ClientParams) (history : List Rat) : Bool :=
  decide (p.plateauPolls ≤ history.length) &&
    (history.take p.plateauPolls).all (fun x =>
      (history.take p.plateauPolls).all (fun y => decide (x - y ≤ p.plateauTol)))

/-- The mask of the calibration's reads: "`fmask` without Overload" (rule R216 step 2). -/
def calReadMask (p : ClientParams) : ErrorFlags := { p.calMask with overload := false }

/-- One poll is a read of the position and of the load (rule R216 step 2), with `POLL_INTERVAL` of sleep "between
two polls" (rule R218). -/
def blockAction (p : ClientParams) (id : Byte) (c : BlockState) : Option (Nat × Command) :=
  match c with
  | .readPosition history _ =>
    some (if history = [] then 0 else p.pollInterval, .readReg id p.aPos (some (calReadMask p)))
  | .readLoad _ _ _ => some (0, .readReg id p.aLoad (some (calReadMask p)))
  | .stalled _ => none
  | .deadline => none
  | .cancelled => none
  | .failed _ => none

/-- Stalled, out of time, or poll again (rule R216 steps 2 to 4). DESIGN CHOICE (log 12), where rule R216 leaves it open:
`CAL_DEADLINE` is tested when a poll ends, before the sleep and not again after it, so a poll is still issued, and may
find the stall, when the deadline passes during the sleep; a poll that finds the stall ends the search even at the
deadline; and "the stalled position" is the newest one of the plateau, which matters when `PLATEAU_TOL` is not 0. -/
def blockResume (p : ClientParams) (c : BlockState) (v : ClientView) : BlockState :=
  match c with
  | .readPosition history began =>
    match v.result with
    | .value x => .readLoad history began x
    | r => .failed r
  | .readLoad history began x =>
    match v.result with
    | .value _ =>
      if plateau p (x :: history) then .stalled x
      else if began + p.calDeadline ≤ v.now then .deadline
      else .readPosition (x :: history) began
    | r => .failed r
  | .stalled x => .stalled x
  | .deadline => .deadline
  | .cancelled => .cancelled
  | .failed r => .failed r

/-- "Checking cancel between polls" (rule R216 step 2): after the sleep, before a poll's first read. -/
def blockCancelled (c : BlockState) : BlockState :=
  match c with
  | .readPosition _ _ => .cancelled
  | .readLoad history began x => .readLoad history began x
  | .stalled x => .stalled x
  | .deadline => .deadline
  | .cancelled => .cancelled
  | .failed r => .failed r

/-- `GetBlockingPosition` as a program (rule R215). -/
def blockProgram (p : ClientParams) (id : Byte) : ClientProgram BlockState :=
  { action := blockAction p id, cancelled := blockCancelled, resume := blockResume p }

/-- The `u16` of a position read (rule R216, `90_conflicts.md` C10). A value that is no integer in 0 to 65535 "is not
described by DOC0": its `u16` is a free value (DESIGN CHOICE, log 21). -/
def positionU16 (x : Rat) : BitVec 16 :=
  if x.den = 1 ∧ 0 ≤ x.num ∧ x.num < 65536 then BitVec.ofNat 16 x.num.toNat else Config.positionOutOfU16 x

/-- How `Calibrate` ends (rule R216). -/
inductive CalOutcome where
  /-- `BlockingPositionResult`, `{min_position: u16, max_position: u16}`. -/
  | extremes (min max : BitVec 16)
  /-- "Distinct from a comm `Timeout`" (rules R216, R234). -/
  | calibrationFailure
  | cancelled
  | failed (r : TypedResult)
deriving DecidableEq, Repr

/-- `Calibrate` under way; `first` is the first direction's extreme once it is known. -/
inductive CalState where
  | rotating (first : Option (BitVec 16)) (c : RotateState)
  | searching (first : Option (BitVec 16)) (c : BlockState)
  | centring (min max : BitVec 16)
  | ended (o : CalOutcome)
deriving DecidableEq, Repr

/-- `dir * CAL_SPEED`: the first direction's sign is a parameter, the second is the other one (rule R216 step 1). -/
def calSpeedOf (p : ClientParams) (first : Option (BitVec 16)) : Rat :=
  if first.isNone = p.firstForward then (p.calSpeed : Rat) else -(p.calSpeed : Rat)

/-- `mid = (min + max) / 2`, exact (rule R216, decision D29). -/
def calMidpoint (min max : BitVec 16) : Rat := ((min.toNat : Rat) + (max.toNat : Rat)) / 2

/-- The address of the register that the correction is written to (rule R216). -/
def centringAddress (p : ClientParams) : Byte :=
  match p.centring with
  | .torqueSwitch => p.aTorque
  | .positionCorrection => p.aOfs

/-- "Write the correction so that mid reads as 2048" (rule R216): a write of the torque switch or of the position
correction. -/
def centringWrite (p : ClientParams) (id : Byte) (mid : Rat) : Command :=
  .writeReg id (centringAddress p) (p.centringValue mid) none

/-- The commands of rule R216. -/
def calAction (p : ClientParams) (id : Byte) (c : CalState) : Option (Nat × Command) :=
  match c with
  | .rotating first r => rotateAction p id (calSpeedOf p first) r
  | .searching _ b => blockAction p id b
  | .centring lo hi => some (0, centringWrite p id (calMidpoint lo hi))
  | .ended _ => none

/-- After a command of `Rotate`: search if both its writes ended `Ok`, else stop with the error (log 12). DESIGN CHOICE
(log 12): rule R216 does not say from when `CAL_DEADLINE` "(per direction)" is counted; here from the end of the speed
write of that direction's `Rotate`, so that `Rotate`'s own writes are outside the bound. -/
def calRotated (first : Option (BitVec 16)) (r : RotateState) (v : ClientView) : CalState :=
  match r with
  | .ended o =>
    if o.speed = some .ok then .searching first (.readPosition [] v.now)
    else .ended (.failed (o.speed.getD o.mode))
  | .writeMode => .rotating first r
  | .writeSpeed _ _ => .rotating first r

/-- After the end of a poll, or a cancellation: record the extreme, then the other direction, then centre (rule R216
steps 3, 4). -/
def calSearched (first : Option (BitVec 16)) (b : BlockState) : CalState :=
  match b with
  | .stalled x =>
    match first with
    | none => .rotating (some (positionU16 x)) .writeMode
    | some y =>
      if positionU16 x ≤ y then .centring (positionU16 x) y else .centring y (positionU16 x)
  | .deadline => .ended .calibrationFailure
  | .cancelled => .ended .cancelled
  | .failed r => .ended (.failed r)
  | .readPosition _ _ => .searching first b
  | .readLoad _ _ _ => .searching first b

/-- How `Calibrate` goes on (rule R216). -/
def calResume (p : ClientParams) (c : CalState) (v : ClientView) : CalState :=
  match c with
  | .rotating first r => calRotated first (rotateResume r v) v
  | .searching first b => calSearched first (blockResume p b v)
  | .centring lo hi => if v.result = .ok then .ended (.extremes lo hi) else .ended (.failed v.result)
  | .ended o => .ended o

/-- The cancellation signal is looked at in the polling loop (rules R216, R217). -/
def calCancelled (c : CalState) : CalState :=
  match c with
  | .rotating first r => .rotating first r
  | .searching first b => calSearched first (blockCancelled b)
  | .centring lo hi => .centring lo hi
  | .ended o => .ended o

/-- `Calibrate(id)`. -/
def calProgram (p : ClientParams) (id : Byte) : ClientProgram CalState :=
  { action := calAction p id, cancelled := calCancelled, resume := calResume p }

/-! ## A client program driving the block -/

/-- A client and the block it drives; `awaiting` while a command of the client's is in flight, `wake` the time until
which the client sleeps before its next command. -/
structure Driver (σ : Type) where
  client : σ
  awaiting : Bool
  wake : Nat
  block : State

/-- What the rest of the world does at one step of a driven block. -/
structure DriverInputs where
  /-- The environment's and the timer's side of the ports; its `client` is not read. -/
  port : PortInputs
  /-- The cancellation signal. -/
  cancel : Bool
  /-- The injected time source. -/
  now : Nat
deriving DecidableEq, Repr

/-- What the client sees of the block (rule R23). -/
def clientView (now : Nat) (s : State) : ClientView :=
  { result := s.tResult, transaction := readTransaction s, now := now }

/-- The client takes up the result of its command, and sleeps as its next action asks (`POLL_INTERVAL`, rule R212). -/
def consumeResult {σ : Type} (prog : ClientProgram σ) (now : Nat) (d : Driver σ) : Driver σ :=
  let c := prog.resume d.client (clientView now d.block)
  { d with client := c, awaiting := false, wake := now + ((prog.action c).map Prod.fst).getD 0 }

/-- The block's step with the client's act `a`, beside the client's own new state. -/
def driveBlock {σ : Type} (cfg : Params) (e : DriverInputs) (a : ClientAct) (d : Driver σ) :
    Host.Outcome (Driver σ) Fault Refusal :=
  match serveInputs cfg { e.port with client := a } d.block with
  | .next t => .next { d with block := t }
  | .fault f => .fault f
  | .refused r => .refused r

/-- A client that is awake and finds the port ready samples the cancellation signal and presents its next command, if it
has one left. -/
def presentNext {σ : Type} (cfg : Params) (prog : ClientProgram σ) (e : DriverInputs) (d : Driver σ) :
    Host.Outcome (Driver σ) Fault Refusal :=
  let c := prog.sample d.client e.cancel
  match prog.action c with
  | none => driveBlock cfg e .quiet { d with client := c }
  | some a => driveBlock cfg e (.present a.2) { d with client := c, awaiting := true }

/-- One step of client and block together: a command is presented only after the result of the one before it has been
consumed (`20_memory.md` rule R59) and the client's sleep is over (rule R212). -/
def driveStep {σ : Type} (cfg : Params) (prog : ClientProgram σ) (e : DriverInputs) (d : Driver σ) :
    Host.Outcome (Driver σ) Fault Refusal :=
  if d.awaiting then
    if d.block.rValid then .next (consumeResult prog e.now d) else driveBlock cfg e .quiet d
  else if d.wake ≤ e.now ∧ d.block.cmdReady = true then presentNext cfg prog e d
  else driveBlock cfg e .quiet d

end Sys2Proof.Machine
end

