-- ==== Sys2Proof/Machine/Execute.lean ====
section
/-! DEFINITION. The blocking summary of a transaction (`41_transport_session.md` rule R144), with the environment's
bytes and ticks given as a finite script. The obligations state that the state machine agrees with it. -/

namespace Sys2Proof.Machine

/-- The receive loop of rule R144 for the peripheral `id`, after `ticks` ticks and the bytes `rx`; none if the script
ends before the transaction does. Of each entry only `rx` and `tick` are read, the byte first (rule R140). -/
def collect (cfg : Params) (id : Byte) : Nat → List Byte → List PortInputs → Option TransactionResult
  | _, _, [] => none
  | ticks, rx, p :: ps =>
    if p.rx.isSome = true ∧ frameComplete (rx ++ p.rx.toList) = true then
      some (decodeResponse cfg.errBit (rx ++ p.rx.toList) id)
    else if p.tick = false then collect cfg id ticks (rx ++ p.rx.toList) ps
    else if ticks + 1 < cfg.timeoutTicks then collect cfg id (ticks + 1) (rx ++ p.rx.toList) ps
    else some (timeoutResult cfg (rx ++ p.rx.toList) id)

/-- `Execute(id, instruction, parameters, expect)` (rules R130, R144): the bytes written and the result. -/
def execute (cfg : Params) (id opcode : Byte) (ps : List Byte) (expect : Bool) (script : List PortInputs) :
    List Byte × Option TransactionResult :=
  (encodeRequest id opcode ps,
    if expect = false then some unawaitedResult else collect cfg id 0 [] script)

end Sys2Proof.Machine
end

