-- ==== Sys2Proof/Machine/Request.lean ====
section
/-! DEFINITION. What a request asks of the addressed peripheral (`20_memory.md` rule R53, `00_scope.md` rule R10). The
block never evaluates it: the register spaces are outside (`20_memory.md` rules R50, R57). -/

namespace Sys2Proof.Machine

/-- The abstract remote accesses of rule R10. -/
inductive RemoteAccess where
  /-- `MemRead(id, addr, n)`. -/
  | memRead (id address : Byte) (n : Nat)
  /-- `MemWrite(id, addr, n, v)`, `n` the number of bytes of `v`, at increasing addresses (rule R194). -/
  | memWrite (id address : Byte) (data : List Byte)
deriving DecidableEq, Repr

/-- The access an instruction requests, where the spec gives its parameters a layout (rules R53, R192 to R198). -/
def remoteAccess (i : Instr) : Option RemoteAccess :=
  match i with
  | .ping _ _ _ => none
  | .read id ps _ =>
    match ps with
    | [address, width] => some (.memRead id address width.toNat)
    | _ => none
  | .write id ps _ =>
    match ps with
    | address :: d :: data => some (.memWrite id address (d :: data))
    | _ => none
  | .regWrite _ _ _ => none
  | .action _ _ _ => none
  | .reset _ _ _ => none
  | .syncWrite _ _ _ => none

/-- The number of payload bytes of the response expected from a unicast ID, where the spec gives it (rule R84). -/
def expectedPayload (i : Instr) : Option Nat :=
  match i with
  | .ping _ _ _ => some 0
  | .read _ ps _ =>
    match ps with
    | [_, width] => some width.toNat
    | _ => none
  | .write _ _ _ => some 0
  | .regWrite _ _ _ => none
  | .action _ _ _ => none
  | .reset _ _ _ => none
  | .syncWrite _ _ _ => none

end Sys2Proof.Machine
end

