-- ==== Sys2Proof/Safety.lean ====
section
/-! DEFINITION. The terms that statements about the machine use: its invariant, the end of a run
(`70_reset_and_hazards.md` rule R272), and what counts as a safe run. -/

namespace Sys2Proof.Machine

/-! ## The invariant -/

/-- While a transaction is in flight (rules R22, R85, R131, R142, R199): the link is open, no result is valid, the command
registers hold a legal command and the transmit buffer its request frame. -/
structure InFlight (s : State) : Prop where
  linkOpen : s.linkOpen = true
  noResult : s.rValid = false
  legalId : s.cId ≠ Config.illegalId
  legalOpcode : (decodeCommand s.cId s.cOp s.cParam s.cExpect).isSome = true
  expectUnicast : s.cExpect = true → s.cId ≠ Config.broadcastId
  request : s.txb = encodeRequest s.cId s.cOp s.cParam

/-- What holds while a response is awaited (rules R29, R135, R136): the frame is still incomplete and the timer has not
reached `TIMEOUT_TICKS`. -/
structure RecvInv (cfg : Params) (s : State) : Prop where
  inFlight : InFlight s
  sent : s.txI = s.txLen
  awaited : s.cExpect = true
  incomplete : s.rxLen < 4 ∨ s.rxLen < 4 + (byteAt s.rxb 3).toNat
  budget : s.timer < cfg.timeoutTicks

/-- The legal values of the registers (rules R22, R23, R25, R29, R122, R160). -/
structure RegInv (cfg : Params) (s : State) : Prop where
  paramBound : s.cPlen ≤ Config.maxParams
  payloadBound : s.rPlen ≤ Config.maxParams
  txBound : s.txLen ≤ Config.maxFrame
  txIndex : s.txI ≤ s.txLen
  rxBound : s.rxLen ≤ Config.maxFrame
  timerBound : s.timer ≤ cfg.timeoutTicks
  noCommErrorSuccess : s.tResult ≠ .commError .success
  failureEmpty : s.rComm ≠ .success → s.rStatus = 0 ∧ s.rFlags = noFlags ∧ s.rPayload = []

/-- The invariant of the block, for well-formed parameters `cfg`. -/
structure State.Inv (cfg : Params) (s : State) : Prop where
  regs : RegInv cfg s
  send : s.ses = .send → InFlight s
  recv : s.ses = .recv → RecvInv cfg s

/-! ## Runs -/

/-- A run of commands "has ended" (rule R272): the client has no further command, `ses = IDLE`, and the last result is
valid, or no command was presented. -/
def State.runEnded (commands : Nat) (s : State) : Prop :=
  s.ses = .idle ∧ (s.rValid = true ∨ commands = 0) ∧ ∀ p ∈ s.inputs, ∀ c, p.client ≠ .present c

/-- "A state in which a command waits because `link_open = 0` is stuck, not final" (rule R272). -/
def State.stuckOnLink (s : State) : Prop :=
  s.ses = .idle ∧ s.linkOpen = false ∧ ∃ c, s.port.client = .present c

/-- The client's act has no step while a transaction is in flight: it does nothing, or waits with a command, an `OPEN`
or a `CLOSE` (rules R131, R147); a reset and a read of the result registers are the other two (rule R273). -/
def clientDefers (p : PortInputs) : Bool :=
  match p.client with
  | .quiet => true
  | .present _ => true
  | .openReq _ => true
  | .closeReq => true
  | .readResult => false
  | .reset => false

/-- The bytes handed to the transport, oldest first (rule R246). -/
def bytesWritten : List TransportCall → List Byte
  | [] => []
  | .write b :: cs => b :: bytesWritten cs
  | .openAt _ :: cs => bytesWritten cs
  | .close :: cs => bytesWritten cs

/-! ## What the block reads -/

/-- The command registers and buffers that a transaction in flight reads (rules R22, R24, R25): the descriptor and the
mask only for the typed accesses. -/
structure SameInFlight (s t : State) : Prop where
  cId : s.cId = t.cId
  cExpect : s.cExpect = t.cExpect
  txb : s.txb = t.txb
  txI : s.txI = t.txI
  tKind : s.tKind = t.tKind
  latch : s.tKind = .readReg ∨ s.tKind = .writeReg → s.tDesc = t.tDesc ∧ s.tFmask = t.tFmask

/-- Two states that differ only in registers that no rule reads in them: `r_*` and `t_result` while `r_valid = 0`, `r_*`
where they "hold nothing meaningful", the command registers in `IDLE`, the receive side outside `RECV` (rules R32, R33,
R160). -/
structure AgreeOnRead (s t : State) : Prop where
  ses : s.ses = t.ses
  linkOpen : s.linkOpen = t.linkOpen
  rValid : s.rValid = t.rValid
  inputs : s.inputs = t.inputs
  wire : s.wire = t.wire
  typedResult : readTypedResult s = readTypedResult t
  transaction : readTransaction s = readTransaction t
  inFlight : s.ses ≠ .idle → SameInFlight s t
  reception : s.ses = .recv → s.rxb = t.rxb ∧ s.timer = t.timer

end Sys2Proof.Machine
end

