-- ==== Sys2Proof/Certificates/Slice0/Obligations.lean ====
section
/-! DEFINITION. The statements for the provers. `cfg` is any choice of the parameters of `00_scope.md` rule R7; the
step of this instance is `stepWith` at `params`. -/

open Sys2Proof Sys2Proof.Machine

/-! ## The Packet Codec -/

/-- Rules R112, R114 (and the sums of R83, R113): every byte of an encoded frame. -/
def Obligations.EncodedFrameHasRequestLayout : Prop :=
  ∀ (id op : Byte) (ps : List Byte), ps.length ≤ 253 →
    (encodeRequest id op ps).length = ps.length + 6 ∧
    (encodeRequest id op ps).take 5 = [0xFF, 0xFF, id, BitVec.ofNat 8 (ps.length + 2), op] ∧
    (∀ k, k < ps.length → byteAt (encodeRequest id op ps) (5 + k) = byteAt ps k) ∧
    (byteAt (encodeRequest id op ps) (ps.length + 5)).toNat =
      255 - (id.toNat + (ps.length + 2) + op.toNat + sumBytes ps) % 256

/-- Rule R124: `Decode` of an encoded frame, for every assignment of the flags' bits. -/
def Obligations.DecodeInvertsEncode : Prop :=
  ∀ (eb : ErrBit) (id op : Byte) (ps : List Byte), ps.length ≤ 253 →
    decodeResponse eb (encodeRequest id op ps) id =
      { comm := .success, status := op, flags := flagDecode eb op, payload := ps }

/-- Rules R116 to R121: `Success` is answered on the frames of rule R81 from the expected ID and on nothing else. -/
def Obligations.DecodeSucceedsExactlyOnFrames : Prop :=
  ∀ (eb : ErrBit) (raw : List Byte) (id : Byte),
    (decodeResponse eb raw id).comm = .success ↔
      ∃ (status : Byte) (payload : List Byte), payload.length ≤ 253 ∧ raw = encodeRequest id status payload

/-- Rules R117 to R120: the four verifications in their order, each in terms of the bytes alone. A checksum agrees
when the bytes from the ID to the checksum itself sum to 255 modulo 256. -/
def Obligations.DecodeVerifiesInOrder : Prop :=
  ∀ (eb : ErrBit) (raw : List Byte) (id : Byte),
    (raw.take 2 ≠ [0xFF, 0xFF] → (decodeResponse eb raw id).comm = .malformedLength) ∧
    (raw.length < 4 ∨ (byteAt raw 3).toNat < 2 ∨ raw.length - 4 ≠ (byteAt raw 3).toNat →
      (decodeResponse eb raw id).comm = .malformedLength) ∧
    (raw.take 2 = [0xFF, 0xFF] → 4 ≤ raw.length → 2 ≤ (byteAt raw 3).toNat →
      raw.length - 4 = (byteAt raw 3).toNat →
      (byteAt raw 2 ≠ id → (decodeResponse eb raw id).comm = .idMismatch) ∧
      (byteAt raw 2 = id → sumBytes (raw.drop 2) % 256 ≠ 255 →
        (decodeResponse eb raw id).comm = .checksumMismatch) ∧
      (byteAt raw 2 = id → sumBytes (raw.drop 2) % 256 = 255 →
        (decodeResponse eb raw id).comm = .success))

/-- Rules R122, R123: `Decode` never answers `Timeout`, and a failure carries status 0, no flag, no payload. -/
def Obligations.DecodeFailuresAreEmpty : Prop :=
  ∀ (eb : ErrBit) (raw : List Byte) (id : Byte),
    (decodeResponse eb raw id).comm ≠ .timeout ∧
    ((decodeResponse eb raw id).comm ≠ .success →
      (decodeResponse eb raw id).status = 0 ∧ (decodeResponse eb raw id).flags = noFlags ∧
      (decodeResponse eb raw id).payload = [])

/-- Rule R125, in the exact form that the spec derives from R113 and R116: one changed byte, by its index; and two
changed bytes that pass. -/
def Obligations.SingleByteChangeIsDetected : Prop :=
  (∀ (eb : ErrBit) (id op b : Byte) (ps : List Byte) (k : Nat), ps.length ≤ 253 → k < ps.length + 6 →
    b ≠ byteAt (encodeRequest id op ps) k →
    ((k = 0 ∨ k = 1 ∨ k = 3) →
      (decodeResponse eb ((encodeRequest id op ps).set k b) id).comm = .malformedLength) ∧
    (k = 2 → (decodeResponse eb ((encodeRequest id op ps).set k b) id).comm = .idMismatch) ∧
    (4 ≤ k → (decodeResponse eb ((encodeRequest id op ps).set k b) id).comm = .checksumMismatch)) ∧
  (∃ (id op a b : Byte) (ps : List Byte) (j k : Nat), ps.length ≤ 253 ∧ j < k ∧ k < ps.length + 6 ∧
    a ≠ byteAt (encodeRequest id op ps) j ∧ b ≠ byteAt (encodeRequest id op ps) k ∧
    ∀ eb : ErrBit, (decodeResponse eb (((encodeRequest id op ps).set j a).set k b) id).comm = .success)

/-- Rule R115, the sentence that the spec derives from R114: two different triples give different frames. -/
def Obligations.EncodeIsInjective : Prop :=
  ∀ (id id' op op' : Byte) (ps ps' : List Byte),
    encodeRequest id op ps = encodeRequest id' op' ps' → id = id' ∧ op = op' ∧ ps = ps'

/-- Rule R92, at `ERRBIT` of this instance (PRESUMED, log 7; the spec's decision D2): flag by flag, bits 6 and 7 decode
to no flag, 0 is no flag, and the raw byte is what a successful `Decode` keeps. -/
def Obligations.StatusBitsAreTheFlags : Prop :=
  params.errBit = errBitListing ∧
  ∀ status : Byte,
    (hasFlag (flagDecode errBitListing status) .voltage = status.getLsbD 0 ∧
      hasFlag (flagDecode errBitListing status) .sensor = status.getLsbD 1 ∧
      hasFlag (flagDecode errBitListing status) .temperature = status.getLsbD 2 ∧
      hasFlag (flagDecode errBitListing status) .current = status.getLsbD 3 ∧
      hasFlag (flagDecode errBitListing status) .angle = status.getLsbD 4 ∧
      hasFlag (flagDecode errBitListing status) .overload = status.getLsbD 5) ∧
    (flagDecode errBitListing status = noFlags ↔ status &&& 0x3F = 0) ∧
    ∀ (id : Byte) (payload : List Byte), payload.length ≤ 253 →
      (decodeResponse errBitListing (encodeRequest id status payload) id).status = status

/-! ## Decoding and encoding instructions -/

/-- Every well-formed instruction, every operand: its frame, with its expect-response flag, decodes to it. -/
def Obligations.InstrDecodesFromItsFrame : Prop :=
  ∀ i : Instr, i.wellFormed = true → decodeFrame i.resp (encode i) = .ok i

/-- The other direction: what the decoder accepts is the frame of a well-formed instruction. -/
def Obligations.DecodedFrameIsTheInstrsFrame : Prop :=
  ∀ (resp : Bool) (raw : List Byte) (i : Instr), decodeFrame resp raw = .ok i →
    i.wellFormed = true ∧ i.resp = resp ∧ encode i = raw

/-- The rows of `30_encoding.md` section 3 and the closed list of rule R85. -/
def Obligations.OpcodeMapIsClosed : Prop :=
  ∀ (id op : Byte) (ps : List Byte) (resp : Bool),
    (decodeCommand id 0x01 ps resp = some (.ping id ps resp) ∧
      decodeCommand id 0x02 ps resp = some (.read id ps resp) ∧
      decodeCommand id 0x03 ps resp = some (.write id ps resp) ∧
      decodeCommand id 0x04 ps resp = some (.regWrite id ps resp) ∧
      decodeCommand id 0x05 ps resp = some (.action id ps resp) ∧
      decodeCommand id 0x06 ps resp = some (.reset id ps resp) ∧
      decodeCommand id 0x83 ps resp = some (.syncWrite id ps resp)) ∧
    (decodeCommand id op ps resp = none ↔
      op ∉ ([0x01, 0x02, 0x03, 0x04, 0x05, 0x06, 0x83] : List Byte))

/-- Words written out from `95_test_vectors.md` V-ENC (rows 1, 5, 7, 10 to 13) decode to their instructions. -/
def Obligations.SpecWordsDecode : Prop :=
  decodeFrame true [0xFF, 0xFF, 0x01, 0x02, 0x01, 0xFB] = .ok (.ping 1 [] true) ∧
  decodeFrame true [0xFF, 0xFF, 0x01, 0x04, 0x02, 0x38, 0x02, 0xBE] = .ok (.read 1 [0x38, 0x02] true) ∧
  decodeFrame true [0xFF, 0xFF, 0x01, 0x05, 0x03, 0x2A, 0x00, 0x08, 0xC4] =
    .ok (.write 1 [0x2A, 0x00, 0x08] true) ∧
  decodeFrame true [0xFF, 0xFF, 0x01, 0x05, 0x04, 0x2A, 0x00, 0x08, 0xC3] =
    .ok (.regWrite 1 [0x2A, 0x00, 0x08] true) ∧
  decodeFrame false [0xFF, 0xFF, 0xFE, 0x02, 0x05, 0xFA] = .ok (.action 254 [] false) ∧
  decodeFrame true [0xFF, 0xFF, 0x01, 0x02, 0x06, 0xF6] = .ok (.reset 1 [] true) ∧
  decodeFrame false
      [0xFF, 0xFF, 0xFE, 0x0A, 0x83, 0x2A, 0x02, 0x01, 0x00, 0x08, 0x02, 0xFF, 0x07, 0x37] =
    .ok (.syncWrite 254 [0x2A, 0x02, 0x01, 0x00, 0x08, 0x02, 0xFF, 0x07] false)

/-! ## Instructions -/

/-- A step runs the decoded instruction: in `IDLE` with the link open, the command presented at this step is decoded,
and the step is `exec` of the instruction once this step's inputs are served. -/
def Obligations.StepRunsPresentedInstruction : Prop :=
  ∀ (s : State) (id op : Byte) (ps : List Byte) (resp : Bool) (i : Instr),
    s.ses = .idle → s.linkOpen = true → s.port.client = .present (.exec id op ps resp) →
    decodeCommand id op ps resp = some i →
    step s = exec i { s with inputs := s.inputs.tail }

/-- The instruction of a table word is the first one to run after reset (log 10 and 11: the model's choice of where a
program stands). -/
def Obligations.TableWordRunsFirst : Prop :=
  ∀ (w : Nat) (i : Instr), decodeTableWord 8 w = some i →
    i.opcode = BitVec.ofNat 8 w ∧
    step (State.reset.withFetchWord 8 w) = exec i { State.reset with linkOpen := true }

/-- Completion of PING, READ, WRITE, REG_WRITE, ACTION, RESET and SYNC_WRITE (rules R131, R199, and R28 for the clearing
of `r_comm` and `r_flags`): in `IDLE` with the link open, a legal ID and at most 253 parameters, `exec` answers the
accepted state, and nothing but the registers named changes. The parameters go out unchanged. That `t_kind` is `RAW`,
that `t_desc`, `t_fmask` and the other `r_*` registers stay, and that a cleared `r_comm` holds code 0 is the model's
(log 16). -/
def Obligations.RawCommandIsAccepted : Prop :=
  ∀ (i : Instr) (s : State), s.ses = .idle → s.linkOpen = true → i.id ≠ 255 → i.params.length ≤ 253 →
    exec i s = .next
      { s with
        cId := i.id, cOp := i.opcode, cParam := i.params, cExpect := i.resp && decide (i.id ≠ 254)
        txb := encodeRequest i.id i.opcode i.params, txI := 0, rxb := [], timer := 0
        rValid := false, rComm := .success, rFlags := noFlags
        tKind := .raw, ses := .send }

/-- Rule R131, its last two sentences: while `ses != IDLE` or `link_open = 0` a presented command "simply waits". -/
def Obligations.RawCommandWaitsUnlessReady : Prop :=
  ∀ (i : Instr) (s : State), s.ses ≠ .idle ∨ s.linkOpen = false → exec i s = .next s

/-- Rules R191 and R240: the ID before the parameter count, and nothing but `t_result` and `r_valid` written
(`rMeaning` is the model's own field, log 5). -/
def Obligations.RawCommandFailsValidation : Prop :=
  ∀ (i : Instr) (s : State), s.ses = .idle → s.linkOpen = true →
    (i.id = 255 →
      exec i s = .next
        { s with tResult := .validationError .invalidId, rValid := true, rMeaning := false }) ∧
    (i.id ≠ 255 → 253 < i.params.length →
      exec i s = .next
        { s with tResult := .validationError .paramsTooLong, rValid := true, rMeaning := false })

/-- Rules R200, R232: an opcode outside the seven ends in `ValidationError(IllegalOpcode)` whatever the ID
(`rMeaning`: log 5), and transmits nothing. -/
def Obligations.IllegalOpcodeSendsNothing : Prop :=
  ∀ (s : State) (id op : Byte) (ps : List Byte) (resp : Bool),
    s.ses = .idle → s.linkOpen = true → s.port.client = .present (.exec id op ps resp) →
    op ∉ ([0x01, 0x02, 0x03, 0x04, 0x05, 0x06, 0x83] : List Byte) →
    step s = .next
      { s with
        tResult := .validationError .illegalOpcode, rValid := true, rMeaning := false
        inputs := s.inputs.tail }

/-! ## The session -/

/-- Rule R132: one byte when the transport takes one, none otherwise, whatever else the environment does. -/
def Obligations.SendTransmitsNextByte : Prop :=
  ∀ (cfg : Params) (s : State), s.ses = .send → s.txI < s.txLen → clientDefers s.port = true →
    (s.port.txReady = true →
      stepWith cfg s = .next
        { s with
          wire := s.wire ++ [.write (byteAt s.txb s.txI)], txI := s.txI + 1, inputs := s.inputs.tail }) ∧
    (s.port.txReady = false → stepWith cfg s = .next { s with inputs := s.inputs.tail })

/-- Rule R133: `Success` with an empty payload at once; `t_result` as the command form reads it. `rMeaning` is the model's
own field (log 5), and that this takes one step is its choice (log 15). -/
def Obligations.UnawaitedCommandEndsInSuccess : Prop :=
  ∀ (cfg : Params) (s : State),
    s.ses = .send → s.txI = s.txLen → s.cExpect = false → clientDefers s.port = true →
    stepWith cfg s = .next
      { s with
        rComm := .success, rStatus := 0, rFlags := noFlags, rPayload := []
        tResult := interpretResult s.tKind s.tDesc s.tFmask
          { comm := .success, status := 0, flags := noFlags, payload := [] }
        rValid := true, rMeaning := true, ses := .idle, inputs := s.inputs.tail }

/-- Rule R134: the timer and the receive count start at 0. That the transition, which has no event, takes this very step
is the model's choice (log 15). -/
def Obligations.ReceptionStartsEmpty : Prop :=
  ∀ (cfg : Params) (s : State),
    s.ses = .send → s.txI = s.txLen → s.cExpect = true → clientDefers s.port = true →
    stepWith cfg s = .next { s with timer := 0, rxb := [], ses := .recv, inputs := s.inputs.tail }

/-- Rules R135 to R137: a byte without a tick is appended; the transaction ends exactly when four bytes and as many as
the fourth announces have arrived, with what `Decode` makes of them. -/
def Obligations.ReceivedByteAppendsOrCompletes : Prop :=
  ∀ (cfg : Params) (s : State) (b : Byte), s.ses = .recv → clientDefers s.port = true →
    s.port.rx = some b → s.port.tick = false →
    (¬ (4 ≤ s.rxLen + 1 ∧ s.rxLen + 1 = 4 + (byteAt (s.rxb ++ [b]) 3).toNat) →
      stepWith cfg s = .next { s with rxb := s.rxb ++ [b], inputs := s.inputs.tail }) ∧
    (4 ≤ s.rxLen + 1 ∧ s.rxLen + 1 = 4 + (byteAt (s.rxb ++ [b]) 3).toNat →
      ∃ t, stepWith cfg s = .next t ∧ t.ses = .idle ∧ t.rValid = true ∧ t.rxb = s.rxb ++ [b] ∧
        t.timer = s.timer ∧ t.wire = s.wire ∧ t.linkOpen = s.linkOpen ∧
        readTransaction t = some (decodeResponse cfg.errBit (s.rxb ++ [b]) s.cId) ∧
        t.tResult = interpretResult s.tKind s.tDesc s.tFmask
          (decodeResponse cfg.errBit (s.rxb ++ [b]) s.cId))

/-- Rules R138, R140: a tick alone counts, and with nothing received the `TIMEOUT_TICKS`-th ends in `Timeout`. That
`timer` then holds `TIMEOUT_TICKS` is DEDUCED (log 14); `rMeaning` is the model's own field (log 5). -/
def Obligations.TicksCountToTimeout : Prop :=
  ∀ (cfg : Params) (s : State),
    s.ses = .recv → clientDefers s.port = true → s.port.rx = none → s.port.tick = true →
    (s.timer + 1 < cfg.timeoutTicks →
      stepWith cfg s = .next { s with timer := s.timer + 1, inputs := s.inputs.tail }) ∧
    (s.timer + 1 = cfg.timeoutTicks → s.rxb = [] →
      stepWith cfg s = .next
        { s with
          timer := s.timer + 1
          rComm := .timeout, rStatus := 0, rFlags := noFlags, rPayload := []
          tResult := interpretResult s.tKind s.tDesc s.tFmask
            { comm := .timeout, status := 0, flags := noFlags, payload := [] }
          rValid := true, rMeaning := true, ses := .idle, inputs := s.inputs.tail })

/-- Rule R139, the sentence that the spec derives from R136, R117, R118: with a partial frame the timeout "necessarily"
gives `MalformedLength`. -/
def Obligations.PartialFrameTimesOutMalformed : Prop :=
  ∀ (cfg : Params) (s : State), s.ses = .recv → s.Inv cfg → clientDefers s.port = true → s.port.rx = none →
    s.port.tick = true → s.timer + 1 = cfg.timeoutTicks → s.rxb ≠ [] →
    ∃ t, stepWith cfg s = .next t ∧ t.ses = .idle ∧
      readTransaction t =
        some { comm := .malformedLength, status := 0, flags := noFlags, payload := [] }

/-- Rule R141 (and R140's sentence on ticks): outside `RECV` neither a delivered byte nor a tick changes what the step
does. -/
def Obligations.BytesOutsideReceptionAreDropped : Prop :=
  ∀ (cfg : Params) (p : PortInputs) (s : State) (rx : Option Byte) (tick : Bool), s.ses ≠ .recv →
    serveInputs cfg { p with rx := rx, tick := tick } s = serveInputs cfg p s

/-- While a transaction is in flight a presented command (rules R131, R142), an `OPEN` and a `CLOSE` (rule R147, "accepted
only in `IDLE`") change nothing. -/
def Obligations.BusyBlockIgnoresTheClient : Prop :=
  ∀ (cfg : Params) (p : PortInputs) (s : State) (c : Command) (baud : Nat), s.ses ≠ .idle →
    serveInputs cfg { p with client := .present c } s = serveInputs cfg { p with client := .quiet } s ∧
    serveInputs cfg { p with client := .openReq baud } s = serveInputs cfg { p with client := .quiet } s ∧
    serveInputs cfg { p with client := .closeReq } s = serveInputs cfg { p with client := .quiet } s

/-- Rule R144, which the spec derives from R131 to R141: from acceptance on, the state machine does what the blocking
summary says, for any finite script of stalls, bytes and ticks along which the summary ends. `txs` and `last` are the
steps at which the request goes out, `rxs` the script of the receive loop. That one transition takes one step, so that
R133 or R134 has the step `gap` of its own, and the bound on the steps, are the model's choice (log 15). -/
def Obligations.TransactionRunsAsExecute : Prop :=
  ∀ (cfg : Params) (s : State) (txs rxs rest : List PortInputs) (last gap : PortInputs) (res : TransactionResult),
    s.ses = .send → s.txI = 0 → s.txb = encodeRequest s.cId s.cOp s.cParam →
    s.inputs = txs ++ last :: gap :: (rxs ++ rest) →
    (∀ p ∈ txs ++ last :: gap :: rxs, clientDefers p = true) →
    txs.countP (fun p => p.txReady) + 1 = s.txLen → last.txReady = true →
    (execute cfg s.cId s.cOp s.cParam s.cExpect rxs).2 = some res →
    ∃ n t, n ≤ txs.length + 2 + rxs.length ∧ runWith cfg n s = .next t ∧
      t.ses = .idle ∧ t.linkOpen = s.linkOpen ∧ readTransaction t = some res ∧
      readTypedResult t = some (interpretResult s.tKind s.tDesc s.tFmask res) ∧
      t.wire = s.wire ++ (execute cfg s.cId s.cOp s.cParam s.cExpect rxs).1.map .write

/-- Rules R130, R144, R190 for PING, READ, WRITE, REG_WRITE, ACTION, RESET and SYNC_WRITE: presented in `IDLE` with
the link open, the instruction is accepted and runs to its result: the request frame on the wire, then the result of
the blocking summary in the result registers, `t_result = Raw`, and the block in `IDLE`.
That `exec` is the acceptance step is DEDUCED (log 17), the steps and their bound are the model's choice (log 15). -/
def Obligations.RawCommandRunsToItsResult : Prop :=
  ∀ (cfg : Params) (i : Instr) (s : State) (first last gap : PortInputs) (txs rxs rest : List PortInputs)
    (res : TransactionResult),
    i.wellFormed = true → s.ses = .idle → s.linkOpen = true →
    first.client = .present (.exec i.id i.opcode i.params i.resp) →
    s.inputs = first :: (txs ++ last :: gap :: (rxs ++ rest)) →
    (∀ p ∈ txs ++ last :: gap :: rxs, clientDefers p = true) →
    txs.countP (fun p => p.txReady) = i.params.length + 5 → last.txReady = true →
    (execute cfg i.id i.opcode i.params (i.resp && decide (i.id ≠ 254)) rxs).2 = some res →
    ∃ t₀, exec i { s with inputs := s.inputs.tail } = .next t₀ ∧ stepWith cfg s = .next t₀ ∧
      ∃ n t, n ≤ txs.length + 2 + rxs.length ∧ runWith cfg n t₀ = .next t ∧
        t.ses = .idle ∧ t.linkOpen = true ∧ readTransaction t = some res ∧
        readTypedResult t = some .raw ∧ t.wire = s.wire ++ (encode i).map .write

/-- Rules R144, R270: every reception ends, at the latest at the tick that makes `TIMEOUT_TICKS`, with a result. -/
def Obligations.ReceptionEndsByItsDeadline : Prop :=
  ∀ (cfg : Params) (s : State) (rxs rest : List PortInputs), s.ses = .recv → s.timer < cfg.timeoutTicks →
    s.inputs = rxs ++ rest → (∀ p ∈ rxs, clientDefers p = true) →
    cfg.timeoutTicks ≤ s.timer + rxs.countP (fun p => p.tick) →
    ∃ n t, n ≤ rxs.length ∧ runWith cfg n s = .next t ∧ t.ses = .idle ∧ (readTransaction t).isSome = true

/-- Rule R146: every step of the timed `RECV` is a step of the untimed one but for the timer. -/
def Obligations.UntimedReceptionAdmitsTimed : Prop :=
  ∀ (cfg : Params) (p : PortInputs) (s : State), s.ses = .recv →
    ∃ (timeout : Bool) (k : Nat), recvStep cfg p s = { recvUntimed cfg p.rx timeout s with timer := k }

/-- Rule R147: `OPEN` and `CLOSE` in `IDLE` at the opposite value of `link_open`; at the same value they have no step.
Neither produces a result. That the transport's answer is the port input `canOpen` of the step that asks is the model's
choice (log 9). -/
def Obligations.LinkControlFollowsItsRule : Prop :=
  ∀ (cfg : Params) (s : State) (baud : Nat), s.ses = .idle →
    (s.port.client = .openReq baud → s.linkOpen = false →
      stepWith cfg s = .next
        { s with
          wire := s.wire ++ [.openAt baud], linkOpen := s.port.canOpen, inputs := s.inputs.tail }) ∧
    (s.port.client = .closeReq → s.linkOpen = true →
      stepWith cfg s = .next
        { s with wire := s.wire ++ [.close], linkOpen := false, inputs := s.inputs.tail }) ∧
    (s.port.client = .openReq baud → s.linkOpen = true →
      stepWith cfg s = .next { s with inputs := s.inputs.tail }) ∧
    (s.port.client = .closeReq → s.linkOpen = false →
      stepWith cfg s = .next { s with inputs := s.inputs.tail })

/-! ## Typed commands -/

/-- Rule R173: `PING id` sends the frame of `PING` with no parameters for an ID up to 253, and answers
`Present(false)` without bus traffic above it (`rMeaning`: log 5). That acceptance leaves `t_desc` and `t_fmask`, and
clears `r_comm` to code 0, is the model's (log 16). -/
def Obligations.TypedPingFollowsItsRule : Prop :=
  ∀ (cfg : Params) (s : State) (id : Byte), s.ses = .idle → s.linkOpen = true →
    s.port.client = .present (.ping id) →
    (id.toNat ≤ 253 →
      stepWith cfg s = .next
        { s with
          cId := id, cOp := 0x01, cParam := [], cExpect := true
          txb := encodeRequest id 0x01 [], txI := 0, rxb := [], timer := 0
          rValid := false, rComm := .success, rFlags := noFlags
          tKind := .ping, ses := .send, inputs := s.inputs.tail }) ∧
    (253 < id.toNat →
      stepWith cfg s = .next
        { s with tResult := .present false, rValid := true, rMeaning := false, inputs := s.inputs.tail })

/-- Rules R171, R174, R175: `READREG` of a register of the table sends `READ [address, width]`, latches the descriptor
and the mask, and asks the peripheral for `MemRead(id, address, width)`. What `r_comm` (cleared, rule R28) and the other
`r_*` registers hold after acceptance is the model's (log 16). -/
def Obligations.ReadRegSendsRead : Prop :=
  ∀ (cfg : Params) (s : State) (id a : Byte) (m : Option ErrorFlags) (d : RegisterDescriptor),
    s.ses = .idle → s.linkOpen = true → s.port.client = .present (.readReg id a m) →
    id.toNat ≤ 253 → lookupRegister cfg a = some d →
    stepWith cfg s = .next
      { s with
        cId := id, cOp := 0x02, cParam := [d.address, BitVec.ofNat 8 d.width.bytes], cExpect := true
        txb := encodeRequest id 0x02 [d.address, BitVec.ofNat 8 d.width.bytes]
        txI := 0, rxb := [], timer := 0
        rValid := false, rComm := .success, rFlags := noFlags
        tKind := .readReg, tDesc := d, tFmask := m.getD cfg.fmaskRead, ses := .send
        inputs := s.inputs.tail } ∧
    d.address = a ∧
    remoteAccess (.read id [d.address, BitVec.ofNat 8 d.width.bytes] true) =
      some (.memRead id a d.width.bytes)

/-- Rules R171, R175: the refusals of `READREG`, ID before lookup; nothing is sent (`rMeaning`: log 5). -/
def Obligations.ReadRegRefusals : Prop :=
  ∀ (cfg : Params) (s : State) (id a : Byte) (m : Option ErrorFlags),
    s.ses = .idle → s.linkOpen = true → s.port.client = .present (.readReg id a m) →
    (253 < id.toNat →
      stepWith cfg s = .next
        { s with
          tResult := .validationError .invalidId, rValid := true, rMeaning := false
          inputs := s.inputs.tail }) ∧
    (id.toNat ≤ 253 → lookupRegister cfg a = none →
      stepWith cfg s = .next
        { s with
          tResult := .validationError .unknownRegister, rValid := true, rMeaning := false
          inputs := s.inputs.tail })

/-- Rules R172, R199: `WRITEREG` of an encodable value sends `WRITE` and awaits a response but for the broadcast ID, and
asks the peripheral for `MemWrite(id, address, data)`. The layout `[address] ++ data` is PRESUMED (log 13); what `r_comm`
(cleared, rule R28) and the other `r_*` registers hold after acceptance is the model's (log 16). -/
def Obligations.WriteRegSendsWrite : Prop :=
  ∀ (cfg : Params) (s : State) (id a : Byte) (v : Rat) (m : Option ErrorFlags) (d : RegisterDescriptor)
    (data : List Byte),
    s.ses = .idle → s.linkOpen = true → s.port.client = .present (.writeReg id a v m) →
    id.toNat ≤ 254 → lookupRegister cfg a = some d → d.access = .readWrite → encodeValue d v = .ok data →
    stepWith cfg s = .next
      { s with
        cId := id, cOp := 0x03, cParam := a :: data, cExpect := decide (id ≠ 254)
        txb := encodeRequest id 0x03 (a :: data), txI := 0, rxb := [], timer := 0
        rValid := false, rComm := .success, rFlags := noFlags
        tKind := .writeReg, tDesc := d, tFmask := m.getD cfg.fmaskWrite, ses := .send
        inputs := s.inputs.tail } ∧
    remoteAccess (.write id (a :: data) (decide (id ≠ 254))) = some (.memWrite id a data)

/-- Rules R172, R175, R166: the refusals of `WRITEREG` in their order, "never sent on the wire": the state but for
`t_result`, `r_valid` and the model's `rMeaning` (log 5) is as before. -/
def Obligations.WriteRegRefusalsInOrder : Prop :=
  ∀ (cfg : Params) (s : State) (id a : Byte) (v : Rat) (m : Option ErrorFlags) (k : ValidationKind),
    s.ses = .idle → s.linkOpen = true → s.port.client = .present (.writeReg id a v m) →
    ((id = 255 ∧ k = .invalidId) ∨
      (id ≠ 255 ∧ lookupRegister cfg a = none ∧ k = .unknownRegister) ∨
      (id ≠ 255 ∧ ∃ d, lookupRegister cfg a = some d ∧
        ((d.access = .readOnly ∧ k = .readOnlyRegister) ∨
          (d.access = .readWrite ∧ (v < d.min ∨ d.max < v) ∧ k = .outOfRange) ∨
          (d.access = .readWrite ∧ encodeValue d v = .error k)))) →
    stepWith cfg s = .next
      { s with
        tResult := .validationError k, rValid := true, rMeaning := false, inputs := s.inputs.tail }

/-- Rules R171, R236: the end of a `READREG` on a response of the addressed peripheral, in the order flags, payload
size, value. -/
def Obligations.ReadRegResultFollowsResponse : Prop :=
  ∀ (cfg : Params) (s : State) (b status : Byte) (payload : List Byte),
    s.ses = .recv → s.Inv cfg → s.tKind = .readReg → clientDefers s.port = true → s.port.rx = some b →
    payload.length ≤ 253 → s.rxb ++ [b] = encodeRequest s.cId status payload →
    ∃ t, stepWith cfg s = .next t ∧ t.ses = .idle ∧
      readTransaction t = some
        { comm := .success, status := status, flags := flagDecode cfg.errBit status, payload := payload } ∧
      (flagsMeet (flagDecode cfg.errBit status) s.tFmask = true →
        readTypedResult t = some (.deviceError (flagDecode cfg.errBit status))) ∧
      (flagsMeet (flagDecode cfg.errBit status) s.tFmask = false → payload.length ≠ s.tDesc.width.bytes →
        readTypedResult t = some (.payloadWidthMismatch payload.length)) ∧
      (flagsMeet (flagDecode cfg.errBit status) s.tFmask = false → payload.length = s.tDesc.width.bytes →
        readTypedResult t = some (.value (decodeValue s.tDesc payload)))

/-- Rules R172, R173, R177: a `WRITEREG` fails on a relevant flag only, an empty mask never fails, `PING` does not look
at flags, and a communication failure is passed on. -/
def Obligations.FlagsFailOnlyThroughTheMask : Prop :=
  ∀ (d : RegisterDescriptor) (mask : ErrorFlags) (res : TransactionResult),
    (res.comm = .success →
      (interpretResult .writeReg d mask res = .deviceError res.flags ↔
        ∃ f, hasFlag res.flags f = true ∧ hasFlag mask f = true) ∧
      (interpretResult .writeReg d mask res ≠ .deviceError res.flags →
        interpretResult .writeReg d mask res = .ok) ∧
      interpretResult .writeReg d noFlags res = .ok ∧
      interpretResult .ping d mask res = .present true) ∧
    (res.comm ≠ .success →
      interpretResult .writeReg d mask res = .commError res.comm ∧
      interpretResult .readReg d mask res = .commError res.comm ∧
      interpretResult .ping d mask res = .present false)

/-! ## The value codec -/

/-- Rule R176, its general sentence, which the spec derives from R161 to R170: what `EncodeValue` accepts decodes to the
same value, for every well-formed descriptor; and it has the register's width. -/
def Obligations.EncodedValueDecodesToItself : Prop :=
  ∀ (d : RegisterDescriptor) (v : Rat) (data : List Byte), d.wellFormed = true → encodeValue d v = .ok data →
    data.length = d.width.bytes ∧ decodeValue d data = v

/-- Rule R176, its first sentence: every value in [-2047, 2047] of a two-byte field with direction bit 11. -/
def Obligations.SignedFieldRoundTrips : Prop :=
  ∀ (d : RegisterDescriptor) (v : Int), d.encoding = .signedDirectionBit 11 → d.width = .two → d.scale = 1 →
    d.min ≤ v → (v : Rat) ≤ d.max → -2047 ≤ v → v ≤ 2047 →
    ∃ data, encodeValue d v = .ok data ∧ decodeValue d data = v ∧ (v = 0 → data = [0x00, 0x00])

/-- Rule R164: every bit but the direction bit is magnitude, the direction bit set means negative, and "negative zero"
reads as 0. -/
def Obligations.DirectionBitIsSignMagnitude : Prop :=
  ∀ (m b : Nat), m.testBit b = false →
    smDecode m b = (m : Int) ∧ smDecode (m + 2 ^ b) b = -(m : Int) ∧ smDecode (2 ^ b) b = 0

/-- Rules R166 to R169: the tests of `EncodeValue` in their order. -/
def Obligations.EncodeValueFollowsItsTests : Prop :=
  ∀ (d : RegisterDescriptor) (v : Rat), 0 < d.scale →
    (v < d.min ∨ d.max < v → encodeValue d v = .error .outOfRange) ∧
    (d.min ≤ v → v ≤ d.max → (∀ q : Int, v ≠ q * d.scale) → encodeValue d v = .error .notRepresentable) ∧
    (∀ q : Int, d.min ≤ v → v ≤ d.max → v = q * d.scale →
      (d.encoding = .unsigned →
        ((0 ≤ q ∧ q < 2 ^ (8 * d.width.bytes) → encodeValue d v = .ok (splitRaw d.width q.toNat)) ∧
          (q < 0 ∨ 2 ^ (8 * d.width.bytes) ≤ q → encodeValue d v = .error .notRepresentable))) ∧
      ∀ b, d.encoding = .signedDirectionBit b →
        ((q.natAbs < 2 ^ b →
            encodeValue d v = .ok (splitRaw d.width (q.natAbs + if q < 0 then 2 ^ b else 0))) ∧
          (2 ^ b ≤ q.natAbs → encodeValue d v = .error .notRepresentable)))

/-! ## The parameters -/

/-- Rule R31: an ill-formed choice is refused at construction, and a well-formed one is taken as it is. The parameters
of this instance are well formed, and its table holds only well-formed descriptors, one an address: where the offer is
ill formed this holds by the model's choice, an empty table and one tick (log 4). -/
def Obligations.ParametersAreWellFormed : Prop :=
  (∀ p : Params, (p.wellFormed = false → constructParams p = none) ∧
    (p.wellFormed = true → constructParams p = some p)) ∧
  params.wellFormed = true ∧
  (∀ d, d ∈ params.regTab → d.wellFormed = true ∧ lookupRegister params d.address = some d)

/-! ## The whole machine -/

/-- Every step keeps the invariant, for every well-formed choice of the parameters (rules R22, R23, R25, R29, R122,
R131, R135, R136, R142, R160, R199). -/
def Obligations.StepKeepsInvariant : Prop :=
  ∀ (cfg : Params) (s t : State), cfg.wellFormed = true → s.Inv cfg → stepWith cfg s = .next t → t.Inv cfg

/-- The invariant holds after reset. -/
def Obligations.InvariantHoldsAtReset : Prop :=
  ∀ cfg : Params, State.reset.Inv cfg

/-- No instruction and no failure is fatal (rule R240): a step answers a next state unless the client reads the result
registers while `r_valid = 0` (rules R33, R273). That this read is the named fault is DEDUCED from
`93_implementation_defined.md` U17 (log 19). -/
def Obligations.OnlyAnEarlyReadStops : Prop :=
  ∀ (cfg : Params) (s : State),
    (s.port.client = .readResult ∧ s.rValid = false → stepWith cfg s = .fault .resultNotReadable) ∧
    (¬ (s.port.client = .readResult ∧ s.rValid = false) → ∃ t, stepWith cfg s = .next t)

/-- "No transmission outside `SEND`" (rule R273), in index order (rule R132): what a step adds to the transport's
calls. -/
def Obligations.OnlySendTransmits : Prop :=
  ∀ (cfg : Params) (s t : State), stepWith cfg s = .next t →
    t.wire = s.wire ∨
    (s.ses = .send ∧ s.txI < s.txLen ∧ t.wire = s.wire ++ [.write (byteAt s.txb s.txI)] ∧ t.txI = s.txI + 1) ∨
    (s.ses = .idle ∧ s.linkOpen = false ∧ ∃ baud, t.wire = s.wire ++ [.openAt baud]) ∨
    (s.ses = .idle ∧ s.linkOpen = true ∧ t.wire = s.wire ++ [.close])

/-- Rules R142, R143: the transitions of `ses` but for reset. `SEND` is entered from `IDLE` alone, by a command presented
with the link open; `RECV` from `SEND` alone, when the request is out and a response is expected; and `IDLE` is
"re-entered only when the result is valid". -/
def Obligations.SessionTransitionsAreClosed : Prop :=
  ∀ (cfg : Params) (s t : State), s.port.client ≠ .reset → stepWith cfg s = .next t →
    (t.ses = .send → s.ses = .send ∧ s.txI < s.txLen ∨
      s.ses = .idle ∧ s.linkOpen = true ∧ t.rValid = false ∧ ∃ c, s.port.client = .present c) ∧
    (t.ses = .recv → s.ses = .recv ∨ s.ses = .send ∧ s.txLen ≤ s.txI ∧ s.cExpect = true) ∧
    (t.ses = .idle → s.ses = .idle ∨ t.rValid = true)

/-- Rules R33, R260: from any state, reset leaves the values the rules give, abandons a transaction without a result,
and sends nothing; and they are the values of the state after reset. -/
def Obligations.ResetLeavesItsValues : Prop :=
  (∀ (cfg : Params) (s : State), s.port.client = .reset →
    ∃ t, stepWith cfg s = .next t ∧ t.ses = .idle ∧ t.linkOpen = false ∧ t.rValid = false ∧ t.rxLen = 0 ∧
      t.timer = 0 ∧ readTypedResult t = none ∧ readTransaction t = none ∧ t.wire = s.wire ∧
      t.inputs = s.inputs.tail) ∧
  State.reset.ses = .idle ∧ State.reset.linkOpen = false ∧ State.reset.rValid = false ∧
  State.reset.rxLen = 0 ∧ State.reset.timer = 0

/-- Rule R145: in `IDLE`, whatever comes but a command that is served or a reset, the result stays readable as it
is. -/
def Obligations.ResultStaysReadable : Prop :=
  ∀ (cfg : Params) (s : State), s.ses = .idle → s.rValid = true → s.port.client ≠ .reset →
    (s.linkOpen = true → ∀ c, s.port.client ≠ .present c) →
    ∃ t, stepWith cfg s = .next t ∧ t.ses = .idle ∧ readTypedResult t = readTypedResult s ∧
      readTransaction t = readTransaction s

/-- Rules R199, R264: from a state of the invariant, no step leads to awaiting a response of the broadcast ID. -/
def Obligations.BroadcastIsNeverAwaited : Prop :=
  ∀ (cfg : Params) (s t : State), cfg.wellFormed = true → s.Inv cfg → stepWith cfg s = .next t →
    t.ses = .recv → t.cId ≠ 254 ∧ t.cId ≠ 255 ∧ t.txb = encodeRequest t.cId t.cOp t.cParam

/-- Rules R32, R33, R240, R242: registers that the rules leave without meaning are never read. Two states that differ
in such registers only go on alike for ever: no failure and no earlier transaction is felt by a later one. -/
def Obligations.StaleRegistersAreNeverRead : Prop :=
  ∀ (cfg : Params) (s t : State), AgreeOnRead s t →
    (∃ s' t', stepWith cfg s = .next s' ∧ stepWith cfg t = .next t' ∧ AgreeOnRead s' t') ∨
    (stepWith cfg s = .fault .resultNotReadable ∧ stepWith cfg t = .fault .resultNotReadable)

/-! ## The client sequences -/

/-- Rule R211: `Scan(lo, hi)` pings each ID once, ascending, and returns exactly the IDs that answered, ascending; its
default range is 0 to 253. -/
def Obligations.ScanFindsExactlyThePresent : Prop :=
  scanDefault = scanStart 0 253 ∧
  ∀ (present : Nat → Bool) (lo hi : Nat) (ts : List ClientTurn), lo ≤ hi → hi ≤ 255 →
    ts.map (fun t => t.result) = (List.range' lo (hi + 1 - lo)).map (fun id => .present (present id)) →
    (scanProgram.run (scanStart lo hi) ts).found = (List.range' lo (hi + 1 - lo)).filter present ∧
    scanProgram.issued (scanStart lo hi) ts =
      (List.range' lo (hi + 1 - lo)).map (fun id => Command.ping (BitVec.ofNat 8 id))

/-- Rules R212, R213, R265: `MoveTo` issues acceleration, speed and target position in this order, each only after the
one before ended `Ok` (for the staging writes decision D29), and after them, only after the position write ended `Ok` and
with `wait`, reads of the moving flag. -/
def Obligations.MoveStagesBeforePosition : Prop :=
  ∀ (p : ClientParams) (m : MoveRequest) (ts : List ClientTurn),
    ((moveProgram p m).issued .stageAcceleration ts).take 3 <+:
      [.writeReg m.id p.aAcc m.acceleration none, .writeReg m.id p.aSpeed m.speed none,
        .writeReg m.id p.aGoal m.position none] ∧
    (∀ c ∈ ((moveProgram p m).issued .stageAcceleration ts).drop 3, c = .readReg m.id p.aMoving none) ∧
    (2 ≤ ((moveProgram p m).issued .stageAcceleration ts).length → ∀ t ∈ ts.take 1, t.result = .ok) ∧
    (3 ≤ ((moveProgram p m).issued .stageAcceleration ts).length → ∀ t ∈ ts.take 2, t.result = .ok) ∧
    (4 ≤ ((moveProgram p m).issued .stageAcceleration ts).length →
      (∀ t ∈ ts.take 3, t.result = .ok) ∧ m.wait = true)

/-- Rules R212, R213, R217: with `wait`, after three `Ok` writes and polls that all read moving, `MoveTo` ends `TimedOut`
at its cap of polls; with a poll that reads stopped at or before the cap, `Reached`; and with the cancellation signal
before a poll, `Cancelled` without issuing its read. -/
def Obligations.MoveEndsReachedOrAtItsCap : Prop :=
  ∀ (p : ClientParams) (m : MoveRequest) (writes polls : List ClientTurn) (last : ClientTurn),
    m.wait = true → writes.length = 3 → (∀ t ∈ writes, t.result = .ok) →
    (∀ t ∈ polls, t.cancel = false ∧ t.now < p.moveDeadline ∧ ∃ x : Rat, x ≠ 0 ∧ t.result = .value x) →
    (polls.length + 1 = p.moveMaxPolls → last.cancel = false → (∃ x : Rat, x ≠ 0 ∧ last.result = .value x) →
      (moveProgram p m).run .stageAcceleration (writes ++ polls ++ [last]) = .ended .timedOut) ∧
    (polls.length < p.moveMaxPolls → last.cancel = false → last.result = .value 0 →
      (moveProgram p m).run .stageAcceleration (writes ++ polls ++ [last]) = .ended .reached) ∧
    (polls.length < p.moveMaxPolls → last.cancel = true →
      (moveProgram p m).run .stageAcceleration (writes ++ polls ++ [last]) = .ended .cancelled ∧
      ((moveProgram p m).issued .stageAcceleration (writes ++ polls ++ [last])).length = 3 + polls.length)

/-- Rule R216: whatever a calibration sees, if it ends with extremes, the smaller is the minimum, and the exact midpoint
lies between them. The `u16` of a position that is none is free (log 21). -/
def Obligations.CalibrationExtremesAreOrdered : Prop :=
  ∀ (p : ClientParams) (id : Byte) (ts : List ClientTurn) (lo hi : BitVec 16),
    (calProgram p id).run (.rotating none .writeMode) ts = .ended (.extremes lo hi) →
    lo ≤ hi ∧ (lo.toNat : Rat) ≤ calMidpoint lo hi ∧ calMidpoint lo hi ≤ (hi.toNat : Rat)

/-- Rules R214, R216: whatever a calibration sees, it issues nothing but the mode write, speed writes of plus or minus
`CAL_SPEED`, reads of position and load with a mask without Overload, and writes of the torque switch or the position
correction. -/
def Obligations.CalibrationCommandsAreItsOwn : Prop :=
  ∀ (p : ClientParams) (id : Byte) (ts : List ClientTurn),
    ∀ c ∈ (calProgram p id).issued (.rotating none .writeMode) ts,
      c = .writeReg id p.aMode 1 none ∨
      c = .writeReg id p.aSpeed (p.calSpeed : Rat) none ∨
      c = .writeReg id p.aSpeed (-(p.calSpeed : Rat)) none ∨
      (∃ mask : ErrorFlags, mask.overload = false ∧
        (c = .readReg id p.aPos (some mask) ∨ c = .readReg id p.aLoad (some mask))) ∨
      ∃ v : Rat, c = .writeReg id p.aTorque v none ∨ c = .writeReg id p.aOfs v none

/-- Rule R59: a client that drives the block presents nothing while a command of its own is in flight. -/
def Obligations.DriverAwaitsItsResult : Prop :=
  ∀ (σ : Type) (cfg : Params) (prog : ClientProgram σ) (e : DriverInputs) (d : Driver σ),
    d.awaiting = true → d.block.rValid = false →
    ∃ t, serveInputs cfg { e.port with client := .quiet } d.block = .next t ∧
      driveStep cfg prog e d = .next { d with block := t }

/-- Rule R212 on a driven block: after a poll that reads moving the client sleeps `POLL_INTERVAL`; while it sleeps it
presents nothing; and when the sleep is over it looks at the cancellation signal before it presents the read. Rule R212
gives the order of these; the times are the model's choice (DESIGN CHOICE, log 12): the sleep is counted from the step
that takes up the poll's result, and the signal is sampled at the step at which the client is awake and the port ready. -/
def Obligations.MovePollsSleepAndLookForCancellation : Prop :=
  ∀ (cfg : Params) (p : ClientParams) (m : MoveRequest) (e : DriverInputs) (d : Driver MoveState) (n : Nat),
    d.client = .polling n →
    (∀ x : Rat, d.awaiting = true → d.block.rValid = true → d.block.tResult = .value x → x ≠ 0 →
      n + 1 ≠ p.moveMaxPolls → e.now < p.moveDeadline →
      driveStep cfg (moveProgram p m) e d =
        .next { d with client := .polling (n + 1), awaiting := false, wake := e.now + p.pollInterval }) ∧
    (d.awaiting = false → e.now < d.wake →
      ∃ t, serveInputs cfg { e.port with client := .quiet } d.block = .next t ∧
        driveStep cfg (moveProgram p m) e d = .next { d with block := t }) ∧
    (d.awaiting = false → d.wake ≤ e.now → d.block.ses = .idle → d.block.linkOpen = true → e.cancel = true →
      ∃ t, serveInputs cfg { e.port with client := .quiet } d.block = .next t ∧
        driveStep cfg (moveProgram p m) e d = .next { d with client := .ended .cancelled, block := t }) ∧
    (d.awaiting = false → d.wake ≤ e.now → d.block.ses = .idle → d.block.linkOpen = true → e.cancel = false →
      ∀ t, serveInputs cfg { e.port with client := .present (.readReg m.id p.aMoving none) } d.block = .next t →
        driveStep cfg (moveProgram p m) e d = .next { d with awaiting := true, block := t })
end

