-- ==== Sys2Proof/Laws/Codec.lean ====
section
/-! SUPPORT. The small lemmas of frames: what each position of an encoded frame holds, and what the three
verifications say of a byte sequence. -/

namespace Sys2Proof

/-! ## Sums and checksums -/

@[simp] theorem sumBytes_nil : sumBytes [] = 0 := rfl
@[simp] theorem sumBytes_cons (b : Byte) (bs : List Byte) : sumBytes (b :: bs) = b.toNat + sumBytes bs := rfl

theorem sumBytes_append (as bs : List Byte) : sumBytes (as ++ bs) = sumBytes as + sumBytes bs := by
  induction as with
  | nil => simp
  | cons a as ih => simp [ih, Nat.add_assoc]

/-- `255 - (sum mod 256)` (rule R113). -/
theorem checksum_toNat (bs : List Byte) : (checksum bs).toNat = 255 - sumBytes bs % 256 := by
  simp [checksum, BitVec.toNat_not]

theorem checksum_eq_iff (as bs : List Byte) : checksum as = checksum bs ↔ sumBytes as % 256 = sumBytes bs % 256 := by
  constructor
  · intro h
    have h' := congrArg BitVec.toNat h
    simp only [checksum_toNat] at h'
    omega
  · intro h
    apply BitVec.eq_of_toNat_eq
    rw [checksum_toNat, checksum_toNat, h]

/-! ## The shape of an encoded frame -/

theorem encodeRequest_eq (id op : Byte) (ps : List Byte) :
    encodeRequest id op ps =
      Config.sync0 :: Config.sync1 :: id :: lengthField ps :: op ::
        (ps ++ [checksum (id :: lengthField ps :: op :: ps)]) := by
  simp [encodeRequest]

@[simp] theorem length_encodeRequest (id op : Byte) (ps : List Byte) :
    (encodeRequest id op ps).length = ps.length + 6 := by
  simp [encodeRequest_eq]

@[simp] theorem byteAt_cons_zero (b : Byte) (bs : List Byte) : byteAt (b :: bs) 0 = b := rfl
@[simp] theorem byteAt_cons_succ (b : Byte) (bs : List Byte) (n : Nat) : byteAt (b :: bs) (n + 1) = byteAt bs n := by
  simp [byteAt]

theorem byteAt_append_left (as bs : List Byte) (n : Nat) (h : n < as.length) : byteAt (as ++ bs) n = byteAt as n := by
  simp [byteAt, List.getElem?_append_left h]

theorem byteAt_append_length (as : List Byte) (b : Byte) : byteAt (as ++ [b]) as.length = b := by
  simp [byteAt]

theorem toNat_lengthField (ps : List Byte) (h : ps.length ≤ 253) : (lengthField ps).toNat = ps.length + 2 := by
  simp [lengthField, BitVec.toNat_ofNat]; omega

/-! ## Slices -/

/-- `raw[5 .. last-1]` of five bytes, a body and one byte is the body. -/
theorem frameBody_frame (a b c d e f : Byte) (body : List Byte) :
    frameBody (a :: b :: c :: d :: e :: (body ++ [f])) = body := by
  simp [frameBody, slice]

/-- `raw[2 .. last-1]` of the same. -/
theorem slice_two_frame (a b c d e f : Byte) (body : List Byte) :
    slice (a :: b :: c :: d :: e :: (body ++ [f])) 2 ((a :: b :: c :: d :: e :: (body ++ [f])).length - 2) =
      c :: d :: e :: body := by
  simp [slice]

/-- The last byte of the same. -/
theorem byteAt_last_frame (a b c d e f : Byte) (body : List Byte) :
    byteAt (a :: b :: c :: d :: e :: (body ++ [f])) ((a :: b :: c :: d :: e :: (body ++ [f])).length - 1) = f := by
  have h : (a :: b :: c :: d :: e :: (body ++ [f])).length - 1 = body.length + 5 := by simp
  rw [h]
  simp [byteAt_append_length]

/-! ## The verifications on five bytes, a body and one byte -/

theorem hasSync_frame (a b c d e f : Byte) (body : List Byte) :
    hasSync (a :: b :: c :: d :: e :: (body ++ [f])) = (a == Config.sync0 && b == Config.sync1) := by
  simp [hasSync, byteAt]

theorem lengthAgrees_frame (a b c d e f : Byte) (body : List Byte) :
    lengthAgrees (a :: b :: c :: d :: e :: (body ++ [f])) = decide (body.length + 2 = d.toNat) := by
  simp [lengthAgrees, byteAt]
  omega

theorem checksumAgrees_frame (a b c d e f : Byte) (body : List Byte) :
    checksumAgrees (a :: b :: c :: d :: e :: (body ++ [f])) = (checksum (c :: d :: e :: body) == f) := by
  rw [checksumAgrees, slice_two_frame, byteAt_last_frame]

/-- A byte sequence whose length field agrees is four bytes, a fifth, a body and a last one. -/
theorem frame_of_lengthAgrees (raw : List Byte) (h : lengthAgrees raw = true) :
    ∃ a b c d e f body, raw = a :: b :: c :: d :: e :: (body ++ [f]) := by
  simp only [lengthAgrees, Bool.and_eq_true, decide_eq_true_eq] at h
  obtain ⟨⟨h4, h2⟩, hl⟩ := h
  match raw with
  | a :: b :: c :: d :: e :: x :: rest =>
    refine ⟨a, b, c, d, e, (x :: rest).getLast (by simp), (x :: rest).dropLast, ?_⟩
    rw [List.dropLast_append_getLast]
  | [] | [_] | [_, _] | [_, _, _] => simp at h4
  | [_, _, _, d] | [_, _, _, d, _] => simp [byteAt] at hl h2; omega

/-! ## The two decoders on five bytes, a body and one byte -/

theorem decodeResponse_frame (eb : ErrBit) (a b c d e f id : Byte) (body : List Byte) :
    Machine.decodeResponse eb (a :: b :: c :: d :: e :: (body ++ [f])) id =
      if ¬ (a = Config.sync0 ∧ b = Config.sync1) then Machine.failResult .malformedLength
      else if body.length + 2 ≠ d.toNat then Machine.failResult .malformedLength
      else if c ≠ id then Machine.failResult .idMismatch
      else if checksum (c :: d :: e :: body) ≠ f then Machine.failResult .checksumMismatch
      else { comm := .success, status := e, flags := Machine.flagDecode eb e, payload := body } := by
  have h2 : byteAt (a :: b :: c :: d :: e :: (body ++ [f])) 2 = c := rfl
  have h4 : byteAt (a :: b :: c :: d :: e :: (body ++ [f])) 4 = e := rfl
  simp only [Machine.decodeResponse, hasSync_frame, lengthAgrees_frame, checksumAgrees_frame, frameBody_frame, h2, h4]
  by_cases hs : a = Config.sync0 ∧ b = Config.sync1 <;> by_cases hl : body.length + 2 = d.toNat <;>
    by_cases hc : c = id <;> simp [hs, hl, hc]

/-- Where the length field does not agree, `Decode` answers `MalformedLength` (rules R117, R118). -/
theorem decodeResponse_of_length (eb : ErrBit) (raw : List Byte) (id : Byte) (h : lengthAgrees raw = false) :
    Machine.decodeResponse eb raw id = Machine.failResult .malformedLength := by
  unfold Machine.decodeResponse
  split
  · rfl
  · simp

end Sys2Proof
end

