-- ==== Sys2Proof/Laws/State.lean ====
section
/-! SUPPORT. One lemma per field per update of the state, so that no later proof unfolds a record update. -/

namespace Sys2Proof.Machine

/-! ### `popInputs` -/

@[simp] theorem popInputs_cId (s : State) :
    (popInputs s).cId = s.cId := rfl
@[simp] theorem popInputs_cOp (s : State) :
    (popInputs s).cOp = s.cOp := rfl
@[simp] theorem popInputs_cParam (s : State) :
    (popInputs s).cParam = s.cParam := rfl
@[simp] theorem popInputs_cExpect (s : State) :
    (popInputs s).cExpect = s.cExpect := rfl
@[simp] theorem popInputs_rValid (s : State) :
    (popInputs s).rValid = s.rValid := rfl
@[simp] theorem popInputs_rComm (s : State) :
    (popInputs s).rComm = s.rComm := rfl
@[simp] theorem popInputs_rStatus (s : State) :
    (popInputs s).rStatus = s.rStatus := rfl
@[simp] theorem popInputs_rFlags (s : State) :
    (popInputs s).rFlags = s.rFlags := rfl
@[simp] theorem popInputs_rPayload (s : State) :
    (popInputs s).rPayload = s.rPayload := rfl
@[simp] theorem popInputs_tKind (s : State) :
    (popInputs s).tKind = s.tKind := rfl
@[simp] theorem popInputs_tDesc (s : State) :
    (popInputs s).tDesc = s.tDesc := rfl
@[simp] theorem popInputs_tFmask (s : State) :
    (popInputs s).tFmask = s.tFmask := rfl
@[simp] theorem popInputs_tResult (s : State) :
    (popInputs s).tResult = s.tResult := rfl
@[simp] theorem popInputs_txb (s : State) :
    (popInputs s).txb = s.txb := rfl
@[simp] theorem popInputs_txI (s : State) :
    (popInputs s).txI = s.txI := rfl
@[simp] theorem popInputs_rxb (s : State) :
    (popInputs s).rxb = s.rxb := rfl
@[simp] theorem popInputs_ses (s : State) :
    (popInputs s).ses = s.ses := rfl
@[simp] theorem popInputs_linkOpen (s : State) :
    (popInputs s).linkOpen = s.linkOpen := rfl
@[simp] theorem popInputs_timer (s : State) :
    (popInputs s).timer = s.timer := rfl
@[simp] theorem popInputs_rMeaning (s : State) :
    (popInputs s).rMeaning = s.rMeaning := rfl
@[simp] theorem popInputs_inputs (s : State) :
    (popInputs s).inputs = s.inputs.tail := rfl
@[simp] theorem popInputs_wire (s : State) :
    (popInputs s).wire = s.wire := rfl

/-! ### `startTransaction` -/

@[simp] theorem startTransaction_cId (k : CommandKind) (id op : Byte) (ps : List Byte) (r : Bool) (s : State) :
    (startTransaction k id op ps r s).cId = id := rfl
@[simp] theorem startTransaction_cOp (k : CommandKind) (id op : Byte) (ps : List Byte) (r : Bool) (s : State) :
    (startTransaction k id op ps r s).cOp = op := rfl
@[simp] theorem startTransaction_cParam (k : CommandKind) (id op : Byte) (ps : List Byte) (r : Bool) (s : State) :
    (startTransaction k id op ps r s).cParam = ps := rfl
@[simp] theorem startTransaction_cExpect (k : CommandKind) (id op : Byte) (ps : List Byte) (r : Bool) (s : State) :
    (startTransaction k id op ps r s).cExpect = effectiveExpect id r := rfl
@[simp] theorem startTransaction_rValid (k : CommandKind) (id op : Byte) (ps : List Byte) (r : Bool) (s : State) :
    (startTransaction k id op ps r s).rValid = false := rfl
@[simp] theorem startTransaction_rComm (k : CommandKind) (id op : Byte) (ps : List Byte) (r : Bool) (s : State) :
    (startTransaction k id op ps r s).rComm = .success := rfl
@[simp] theorem startTransaction_rStatus (k : CommandKind) (id op : Byte) (ps : List Byte) (r : Bool) (s : State) :
    (startTransaction k id op ps r s).rStatus = s.rStatus := rfl
@[simp] theorem startTransaction_rFlags (k : CommandKind) (id op : Byte) (ps : List Byte) (r : Bool) (s : State) :
    (startTransaction k id op ps r s).rFlags = noFlags := rfl
@[simp] theorem startTransaction_rPayload (k : CommandKind) (id op : Byte) (ps : List Byte) (r : Bool) (s : State) :
    (startTransaction k id op ps r s).rPayload = s.rPayload := rfl
@[simp] theorem startTransaction_tKind (k : CommandKind) (id op : Byte) (ps : List Byte) (r : Bool) (s : State) :
    (startTransaction k id op ps r s).tKind = k := rfl
@[simp] theorem startTransaction_tDesc (k : CommandKind) (id op : Byte) (ps : List Byte) (r : Bool) (s : State) :
    (startTransaction k id op ps r s).tDesc = s.tDesc := rfl
@[simp] theorem startTransaction_tFmask (k : CommandKind) (id op : Byte) (ps : List Byte) (r : Bool) (s : State) :
    (startTransaction k id op ps r s).tFmask = s.tFmask := rfl
@[simp] theorem startTransaction_tResult (k : CommandKind) (id op : Byte) (ps : List Byte) (r : Bool) (s : State) :
    (startTransaction k id op ps r s).tResult = s.tResult := rfl
@[simp] theorem startTransaction_txb (k : CommandKind) (id op : Byte) (ps : List Byte) (r : Bool) (s : State) :
    (startTransaction k id op ps r s).txb = encodeRequest id op ps := rfl
@[simp] theorem startTransaction_txI (k : CommandKind) (id op : Byte) (ps : List Byte) (r : Bool) (s : State) :
    (startTransaction k id op ps r s).txI = 0 := rfl
@[simp] theorem startTransaction_rxb (k : CommandKind) (id op : Byte) (ps : List Byte) (r : Bool) (s : State) :
    (startTransaction k id op ps r s).rxb = [] := rfl
@[simp] theorem startTransaction_ses (k : CommandKind) (id op : Byte) (ps : List Byte) (r : Bool) (s : State) :
    (startTransaction k id op ps r s).ses = .send := rfl
@[simp] theorem startTransaction_linkOpen (k : CommandKind) (id op : Byte) (ps : List Byte) (r : Bool) (s : State) :
    (startTransaction k id op ps r s).linkOpen = s.linkOpen := rfl
@[simp] theorem startTransaction_timer (k : CommandKind) (id op : Byte) (ps : List Byte) (r : Bool) (s : State) :
    (startTransaction k id op ps r s).timer = 0 := rfl
@[simp] theorem startTransaction_rMeaning (k : CommandKind) (id op : Byte) (ps : List Byte) (r : Bool) (s : State) :
    (startTransaction k id op ps r s).rMeaning = s.rMeaning := rfl
@[simp] theorem startTransaction_inputs (k : CommandKind) (id op : Byte) (ps : List Byte) (r : Bool) (s : State) :
    (startTransaction k id op ps r s).inputs = s.inputs := rfl
@[simp] theorem startTransaction_wire (k : CommandKind) (id op : Byte) (ps : List Byte) (r : Bool) (s : State) :
    (startTransaction k id op ps r s).wire = s.wire := rfl

/-! ### `latchTyped` -/

@[simp] theorem latchTyped_cId (d : RegisterDescriptor) (m : ErrorFlags) (s : State) :
    (latchTyped d m s).cId = s.cId := rfl
@[simp] theorem latchTyped_cOp (d : RegisterDescriptor) (m : ErrorFlags) (s : State) :
    (latchTyped d m s).cOp = s.cOp := rfl
@[simp] theorem latchTyped_cParam (d : RegisterDescriptor) (m : ErrorFlags) (s : State) :
    (latchTyped d m s).cParam = s.cParam := rfl
@[simp] theorem latchTyped_cExpect (d : RegisterDescriptor) (m : ErrorFlags) (s : State) :
    (latchTyped d m s).cExpect = s.cExpect := rfl
@[simp] theorem latchTyped_rValid (d : RegisterDescriptor) (m : ErrorFlags) (s : State) :
    (latchTyped d m s).rValid = s.rValid := rfl
@[simp] theorem latchTyped_rComm (d : RegisterDescriptor) (m : ErrorFlags) (s : State) :
    (latchTyped d m s).rComm = s.rComm := rfl
@[simp] theorem latchTyped_rStatus (d : RegisterDescriptor) (m : ErrorFlags) (s : State) :
    (latchTyped d m s).rStatus = s.rStatus := rfl
@[simp] theorem latchTyped_rFlags (d : RegisterDescriptor) (m : ErrorFlags) (s : State) :
    (latchTyped d m s).rFlags = s.rFlags := rfl
@[simp] theorem latchTyped_rPayload (d : RegisterDescriptor) (m : ErrorFlags) (s : State) :
    (latchTyped d m s).rPayload = s.rPayload := rfl
@[simp] theorem latchTyped_tKind (d : RegisterDescriptor) (m : ErrorFlags) (s : State) :
    (latchTyped d m s).tKind = s.tKind := rfl
@[simp] theorem latchTyped_tDesc (d : RegisterDescriptor) (m : ErrorFlags) (s : State) :
    (latchTyped d m s).tDesc = d := rfl
@[simp] theorem latchTyped_tFmask (d : RegisterDescriptor) (m : ErrorFlags) (s : State) :
    (latchTyped d m s).tFmask = m := rfl
@[simp] theorem latchTyped_tResult (d : RegisterDescriptor) (m : ErrorFlags) (s : State) :
    (latchTyped d m s).tResult = s.tResult := rfl
@[simp] theorem latchTyped_txb (d : RegisterDescriptor) (m : ErrorFlags) (s : State) :
    (latchTyped d m s).txb = s.txb := rfl
@[simp] theorem latchTyped_txI (d : RegisterDescriptor) (m : ErrorFlags) (s : State) :
    (latchTyped d m s).txI = s.txI := rfl
@[simp] theorem latchTyped_rxb (d : RegisterDescriptor) (m : ErrorFlags) (s : State) :
    (latchTyped d m s).rxb = s.rxb := rfl
@[simp] theorem latchTyped_ses (d : RegisterDescriptor) (m : ErrorFlags) (s : State) :
    (latchTyped d m s).ses = s.ses := rfl
@[simp] theorem latchTyped_linkOpen (d : RegisterDescriptor) (m : ErrorFlags) (s : State) :
    (latchTyped d m s).linkOpen = s.linkOpen := rfl
@[simp] theorem latchTyped_timer (d : RegisterDescriptor) (m : ErrorFlags) (s : State) :
    (latchTyped d m s).timer = s.timer := rfl
@[simp] theorem latchTyped_rMeaning (d : RegisterDescriptor) (m : ErrorFlags) (s : State) :
    (latchTyped d m s).rMeaning = s.rMeaning := rfl
@[simp] theorem latchTyped_inputs (d : RegisterDescriptor) (m : ErrorFlags) (s : State) :
    (latchTyped d m s).inputs = s.inputs := rfl
@[simp] theorem latchTyped_wire (d : RegisterDescriptor) (m : ErrorFlags) (s : State) :
    (latchTyped d m s).wire = s.wire := rfl

/-! ### `raiseValidation` -/

@[simp] theorem raiseValidation_cId (k : ValidationKind) (s : State) :
    (raiseValidation k s).cId = s.cId := rfl
@[simp] theorem raiseValidation_cOp (k : ValidationKind) (s : State) :
    (raiseValidation k s).cOp = s.cOp := rfl
@[simp] theorem raiseValidation_cParam (k : ValidationKind) (s : State) :
    (raiseValidation k s).cParam = s.cParam := rfl
@[simp] theorem raiseValidation_cExpect (k : ValidationKind) (s : State) :
    (raiseValidation k s).cExpect = s.cExpect := rfl
@[simp] theorem raiseValidation_rValid (k : ValidationKind) (s : State) :
    (raiseValidation k s).rValid = true := rfl
@[simp] theorem raiseValidation_rComm (k : ValidationKind) (s : State) :
    (raiseValidation k s).rComm = s.rComm := rfl
@[simp] theorem raiseValidation_rStatus (k : ValidationKind) (s : State) :
    (raiseValidation k s).rStatus = s.rStatus := rfl
@[simp] theorem raiseValidation_rFlags (k : ValidationKind) (s : State) :
    (raiseValidation k s).rFlags = s.rFlags := rfl
@[simp] theorem raiseValidation_rPayload (k : ValidationKind) (s : State) :
    (raiseValidation k s).rPayload = s.rPayload := rfl
@[simp] theorem raiseValidation_tKind (k : ValidationKind) (s : State) :
    (raiseValidation k s).tKind = s.tKind := rfl
@[simp] theorem raiseValidation_tDesc (k : ValidationKind) (s : State) :
    (raiseValidation k s).tDesc = s.tDesc := rfl
@[simp] theorem raiseValidation_tFmask (k : ValidationKind) (s : State) :
    (raiseValidation k s).tFmask = s.tFmask := rfl
@[simp] theorem raiseValidation_tResult (k : ValidationKind) (s : State) :
    (raiseValidation k s).tResult = .validationError k := rfl
@[simp] theorem raiseValidation_txb (k : ValidationKind) (s : State) :
    (raiseValidation k s).txb = s.txb := rfl
@[simp] theorem raiseValidation_txI (k : ValidationKind) (s : State) :
    (raiseValidation k s).txI = s.txI := rfl
@[simp] theorem raiseValidation_rxb (k : ValidationKind) (s : State) :
    (raiseValidation k s).rxb = s.rxb := rfl
@[simp] theorem raiseValidation_ses (k : ValidationKind) (s : State) :
    (raiseValidation k s).ses = s.ses := rfl
@[simp] theorem raiseValidation_linkOpen (k : ValidationKind) (s : State) :
    (raiseValidation k s).linkOpen = s.linkOpen := rfl
@[simp] theorem raiseValidation_timer (k : ValidationKind) (s : State) :
    (raiseValidation k s).timer = s.timer := rfl
@[simp] theorem raiseValidation_rMeaning (k : ValidationKind) (s : State) :
    (raiseValidation k s).rMeaning = false := rfl
@[simp] theorem raiseValidation_inputs (k : ValidationKind) (s : State) :
    (raiseValidation k s).inputs = s.inputs := rfl
@[simp] theorem raiseValidation_wire (k : ValidationKind) (s : State) :
    (raiseValidation k s).wire = s.wire := rfl

/-! ### `endAbsent` -/

@[simp] theorem endAbsent_cId (s : State) :
    (endAbsent s).cId = s.cId := rfl
@[simp] theorem endAbsent_cOp (s : State) :
    (endAbsent s).cOp = s.cOp := rfl
@[simp] theorem endAbsent_cParam (s : State) :
    (endAbsent s).cParam = s.cParam := rfl
@[simp] theorem endAbsent_cExpect (s : State) :
    (endAbsent s).cExpect = s.cExpect := rfl
@[simp] theorem endAbsent_rValid (s : State) :
    (endAbsent s).rValid = true := rfl
@[simp] theorem endAbsent_rComm (s : State) :
    (endAbsent s).rComm = s.rComm := rfl
@[simp] theorem endAbsent_rStatus (s : State) :
    (endAbsent s).rStatus = s.rStatus := rfl
@[simp] theorem endAbsent_rFlags (s : State) :
    (endAbsent s).rFlags = s.rFlags := rfl
@[simp] theorem endAbsent_rPayload (s : State) :
    (endAbsent s).rPayload = s.rPayload := rfl
@[simp] theorem endAbsent_tKind (s : State) :
    (endAbsent s).tKind = s.tKind := rfl
@[simp] theorem endAbsent_tDesc (s : State) :
    (endAbsent s).tDesc = s.tDesc := rfl
@[simp] theorem endAbsent_tFmask (s : State) :
    (endAbsent s).tFmask = s.tFmask := rfl
@[simp] theorem endAbsent_tResult (s : State) :
    (endAbsent s).tResult = .present false := rfl
@[simp] theorem endAbsent_txb (s : State) :
    (endAbsent s).txb = s.txb := rfl
@[simp] theorem endAbsent_txI (s : State) :
    (endAbsent s).txI = s.txI := rfl
@[simp] theorem endAbsent_rxb (s : State) :
    (endAbsent s).rxb = s.rxb := rfl
@[simp] theorem endAbsent_ses (s : State) :
    (endAbsent s).ses = s.ses := rfl
@[simp] theorem endAbsent_linkOpen (s : State) :
    (endAbsent s).linkOpen = s.linkOpen := rfl
@[simp] theorem endAbsent_timer (s : State) :
    (endAbsent s).timer = s.timer := rfl
@[simp] theorem endAbsent_rMeaning (s : State) :
    (endAbsent s).rMeaning = false := rfl
@[simp] theorem endAbsent_inputs (s : State) :
    (endAbsent s).inputs = s.inputs := rfl
@[simp] theorem endAbsent_wire (s : State) :
    (endAbsent s).wire = s.wire := rfl

/-! ### `endTransaction` -/

@[simp] theorem endTransaction_cId (res : TransactionResult) (s : State) :
    (endTransaction res s).cId = s.cId := rfl
@[simp] theorem endTransaction_cOp (res : TransactionResult) (s : State) :
    (endTransaction res s).cOp = s.cOp := rfl
@[simp] theorem endTransaction_cParam (res : TransactionResult) (s : State) :
    (endTransaction res s).cParam = s.cParam := rfl
@[simp] theorem endTransaction_cExpect (res : TransactionResult) (s : State) :
    (endTransaction res s).cExpect = s.cExpect := rfl
@[simp] theorem endTransaction_rValid (res : TransactionResult) (s : State) :
    (endTransaction res s).rValid = true := rfl
@[simp] theorem endTransaction_rComm (res : TransactionResult) (s : State) :
    (endTransaction res s).rComm = res.comm := rfl
@[simp] theorem endTransaction_rStatus (res : TransactionResult) (s : State) :
    (endTransaction res s).rStatus = res.status := rfl
@[simp] theorem endTransaction_rFlags (res : TransactionResult) (s : State) :
    (endTransaction res s).rFlags = res.flags := rfl
@[simp] theorem endTransaction_rPayload (res : TransactionResult) (s : State) :
    (endTransaction res s).rPayload = res.payload := rfl
@[simp] theorem endTransaction_tKind (res : TransactionResult) (s : State) :
    (endTransaction res s).tKind = s.tKind := rfl
@[simp] theorem endTransaction_tDesc (res : TransactionResult) (s : State) :
    (endTransaction res s).tDesc = s.tDesc := rfl
@[simp] theorem endTransaction_tFmask (res : TransactionResult) (s : State) :
    (endTransaction res s).tFmask = s.tFmask := rfl
@[simp] theorem endTransaction_tResult (res : TransactionResult) (s : State) :
    (endTransaction res s).tResult = interpretResult s.tKind s.tDesc s.tFmask res := rfl
@[simp] theorem endTransaction_txb (res : TransactionResult) (s : State) :
    (endTransaction res s).txb = s.txb := rfl
@[simp] theorem endTransaction_txI (res : TransactionResult) (s : State) :
    (endTransaction res s).txI = s.txI := rfl
@[simp] theorem endTransaction_rxb (res : TransactionResult) (s : State) :
    (endTransaction res s).rxb = s.rxb := rfl
@[simp] theorem endTransaction_ses (res : TransactionResult) (s : State) :
    (endTransaction res s).ses = .idle := rfl
@[simp] theorem endTransaction_linkOpen (res : TransactionResult) (s : State) :
    (endTransaction res s).linkOpen = s.linkOpen := rfl
@[simp] theorem endTransaction_timer (res : TransactionResult) (s : State) :
    (endTransaction res s).timer = s.timer := rfl
@[simp] theorem endTransaction_rMeaning (res : TransactionResult) (s : State) :
    (endTransaction res s).rMeaning = true := rfl
@[simp] theorem endTransaction_inputs (res : TransactionResult) (s : State) :
    (endTransaction res s).inputs = s.inputs := rfl
@[simp] theorem endTransaction_wire (res : TransactionResult) (s : State) :
    (endTransaction res s).wire = s.wire := rfl

/-! ### `resetBlock` -/

@[simp] theorem resetBlock_cId (s : State) :
    (resetBlock s).cId = State.reset.cId := rfl
@[simp] theorem resetBlock_cOp (s : State) :
    (resetBlock s).cOp = State.reset.cOp := rfl
@[simp] theorem resetBlock_cParam (s : State) :
    (resetBlock s).cParam = State.reset.cParam := rfl
@[simp] theorem resetBlock_cExpect (s : State) :
    (resetBlock s).cExpect = State.reset.cExpect := rfl
@[simp] theorem resetBlock_rValid (s : State) :
    (resetBlock s).rValid = State.reset.rValid := rfl
@[simp] theorem resetBlock_rComm (s : State) :
    (resetBlock s).rComm = State.reset.rComm := rfl
@[simp] theorem resetBlock_rStatus (s : State) :
    (resetBlock s).rStatus = State.reset.rStatus := rfl
@[simp] theorem resetBlock_rFlags (s : State) :
    (resetBlock s).rFlags = State.reset.rFlags := rfl
@[simp] theorem resetBlock_rPayload (s : State) :
    (resetBlock s).rPayload = State.reset.rPayload := rfl
@[simp] theorem resetBlock_tKind (s : State) :
    (resetBlock s).tKind = State.reset.tKind := rfl
@[simp] theorem resetBlock_tDesc (s : State) :
    (resetBlock s).tDesc = State.reset.tDesc := rfl
@[simp] theorem resetBlock_tFmask (s : State) :
    (resetBlock s).tFmask = State.reset.tFmask := rfl
@[simp] theorem resetBlock_tResult (s : State) :
    (resetBlock s).tResult = State.reset.tResult := rfl
@[simp] theorem resetBlock_txb (s : State) :
    (resetBlock s).txb = State.reset.txb := rfl
@[simp] theorem resetBlock_txI (s : State) :
    (resetBlock s).txI = State.reset.txI := rfl
@[simp] theorem resetBlock_rxb (s : State) :
    (resetBlock s).rxb = State.reset.rxb := rfl
@[simp] theorem resetBlock_ses (s : State) :
    (resetBlock s).ses = State.reset.ses := rfl
@[simp] theorem resetBlock_linkOpen (s : State) :
    (resetBlock s).linkOpen = State.reset.linkOpen := rfl
@[simp] theorem resetBlock_timer (s : State) :
    (resetBlock s).timer = State.reset.timer := rfl
@[simp] theorem resetBlock_rMeaning (s : State) :
    (resetBlock s).rMeaning = State.reset.rMeaning := rfl
@[simp] theorem resetBlock_inputs (s : State) :
    (resetBlock s).inputs = s.inputs := rfl
@[simp] theorem resetBlock_wire (s : State) :
    (resetBlock s).wire = s.wire := rfl

/-! ### `transmitByte` -/

@[simp] theorem transmitByte_cId (s : State) :
    (transmitByte s).cId = s.cId := rfl
@[simp] theorem transmitByte_cOp (s : State) :
    (transmitByte s).cOp = s.cOp := rfl
@[simp] theorem transmitByte_cParam (s : State) :
    (transmitByte s).cParam = s.cParam := rfl
@[simp] theorem transmitByte_cExpect (s : State) :
    (transmitByte s).cExpect = s.cExpect := rfl
@[simp] theorem transmitByte_rValid (s : State) :
    (transmitByte s).rValid = s.rValid := rfl
@[simp] theorem transmitByte_rComm (s : State) :
    (transmitByte s).rComm = s.rComm := rfl
@[simp] theorem transmitByte_rStatus (s : State) :
    (transmitByte s).rStatus = s.rStatus := rfl
@[simp] theorem transmitByte_rFlags (s : State) :
    (transmitByte s).rFlags = s.rFlags := rfl
@[simp] theorem transmitByte_rPayload (s : State) :
    (transmitByte s).rPayload = s.rPayload := rfl
@[simp] theorem transmitByte_tKind (s : State) :
    (transmitByte s).tKind = s.tKind := rfl
@[simp] theorem transmitByte_tDesc (s : State) :
    (transmitByte s).tDesc = s.tDesc := rfl
@[simp] theorem transmitByte_tFmask (s : State) :
    (transmitByte s).tFmask = s.tFmask := rfl
@[simp] theorem transmitByte_tResult (s : State) :
    (transmitByte s).tResult = s.tResult := rfl
@[simp] theorem transmitByte_txb (s : State) :
    (transmitByte s).txb = s.txb := rfl
@[simp] theorem transmitByte_txI (s : State) :
    (transmitByte s).txI = s.txI + 1 := rfl
@[simp] theorem transmitByte_rxb (s : State) :
    (transmitByte s).rxb = s.rxb := rfl
@[simp] theorem transmitByte_ses (s : State) :
    (transmitByte s).ses = s.ses := rfl
@[simp] theorem transmitByte_linkOpen (s : State) :
    (transmitByte s).linkOpen = s.linkOpen := rfl
@[simp] theorem transmitByte_timer (s : State) :
    (transmitByte s).timer = s.timer := rfl
@[simp] theorem transmitByte_rMeaning (s : State) :
    (transmitByte s).rMeaning = s.rMeaning := rfl
@[simp] theorem transmitByte_inputs (s : State) :
    (transmitByte s).inputs = s.inputs := rfl
@[simp] theorem transmitByte_wire (s : State) :
    (transmitByte s).wire = s.wire ++ [.write (byteAt s.txb s.txI)] := rfl

/-! ### `startReception` -/

@[simp] theorem startReception_cId (s : State) :
    (startReception s).cId = s.cId := rfl
@[simp] theorem startReception_cOp (s : State) :
    (startReception s).cOp = s.cOp := rfl
@[simp] theorem startReception_cParam (s : State) :
    (startReception s).cParam = s.cParam := rfl
@[simp] theorem startReception_cExpect (s : State) :
    (startReception s).cExpect = s.cExpect := rfl
@[simp] theorem startReception_rValid (s : State) :
    (startReception s).rValid = s.rValid := rfl
@[simp] theorem startReception_rComm (s : State) :
    (startReception s).rComm = s.rComm := rfl
@[simp] theorem startReception_rStatus (s : State) :
    (startReception s).rStatus = s.rStatus := rfl
@[simp] theorem startReception_rFlags (s : State) :
    (startReception s).rFlags = s.rFlags := rfl
@[simp] theorem startReception_rPayload (s : State) :
    (startReception s).rPayload = s.rPayload := rfl
@[simp] theorem startReception_tKind (s : State) :
    (startReception s).tKind = s.tKind := rfl
@[simp] theorem startReception_tDesc (s : State) :
    (startReception s).tDesc = s.tDesc := rfl
@[simp] theorem startReception_tFmask (s : State) :
    (startReception s).tFmask = s.tFmask := rfl
@[simp] theorem startReception_tResult (s : State) :
    (startReception s).tResult = s.tResult := rfl
@[simp] theorem startReception_txb (s : State) :
    (startReception s).txb = s.txb := rfl
@[simp] theorem startReception_txI (s : State) :
    (startReception s).txI = s.txI := rfl
@[simp] theorem startReception_rxb (s : State) :
    (startReception s).rxb = [] := rfl
@[simp] theorem startReception_ses (s : State) :
    (startReception s).ses = .recv := rfl
@[simp] theorem startReception_linkOpen (s : State) :
    (startReception s).linkOpen = s.linkOpen := rfl
@[simp] theorem startReception_timer (s : State) :
    (startReception s).timer = 0 := rfl
@[simp] theorem startReception_rMeaning (s : State) :
    (startReception s).rMeaning = s.rMeaning := rfl
@[simp] theorem startReception_inputs (s : State) :
    (startReception s).inputs = s.inputs := rfl
@[simp] theorem startReception_wire (s : State) :
    (startReception s).wire = s.wire := rfl

/-! ### `openLink` -/

@[simp] theorem openLink_cId (n : Nat) (b : Bool) (s : State) :
    (openLink n b s).cId = s.cId := rfl
@[simp] theorem openLink_cOp (n : Nat) (b : Bool) (s : State) :
    (openLink n b s).cOp = s.cOp := rfl
@[simp] theorem openLink_cParam (n : Nat) (b : Bool) (s : State) :
    (openLink n b s).cParam = s.cParam := rfl
@[simp] theorem openLink_cExpect (n : Nat) (b : Bool) (s : State) :
    (openLink n b s).cExpect = s.cExpect := rfl
@[simp] theorem openLink_rValid (n : Nat) (b : Bool) (s : State) :
    (openLink n b s).rValid = s.rValid := rfl
@[simp] theorem openLink_rComm (n : Nat) (b : Bool) (s : State) :
    (openLink n b s).rComm = s.rComm := rfl
@[simp] theorem openLink_rStatus (n : Nat) (b : Bool) (s : State) :
    (openLink n b s).rStatus = s.rStatus := rfl
@[simp] theorem openLink_rFlags (n : Nat) (b : Bool) (s : State) :
    (openLink n b s).rFlags = s.rFlags := rfl
@[simp] theorem openLink_rPayload (n : Nat) (b : Bool) (s : State) :
    (openLink n b s).rPayload = s.rPayload := rfl
@[simp] theorem openLink_tKind (n : Nat) (b : Bool) (s : State) :
    (openLink n b s).tKind = s.tKind := rfl
@[simp] theorem openLink_tDesc (n : Nat) (b : Bool) (s : State) :
    (openLink n b s).tDesc = s.tDesc := rfl
@[simp] theorem openLink_tFmask (n : Nat) (b : Bool) (s : State) :
    (openLink n b s).tFmask = s.tFmask := rfl
@[simp] theorem openLink_tResult (n : Nat) (b : Bool) (s : State) :
    (openLink n b s).tResult = s.tResult := rfl
@[simp] theorem openLink_txb (n : Nat) (b : Bool) (s : State) :
    (openLink n b s).txb = s.txb := rfl
@[simp] theorem openLink_txI (n : Nat) (b : Bool) (s : State) :
    (openLink n b s).txI = s.txI := rfl
@[simp] theorem openLink_rxb (n : Nat) (b : Bool) (s : State) :
    (openLink n b s).rxb = s.rxb := rfl
@[simp] theorem openLink_ses (n : Nat) (b : Bool) (s : State) :
    (openLink n b s).ses = s.ses := rfl
@[simp] theorem openLink_linkOpen (n : Nat) (b : Bool) (s : State) :
    (openLink n b s).linkOpen = b := rfl
@[simp] theorem openLink_timer (n : Nat) (b : Bool) (s : State) :
    (openLink n b s).timer = s.timer := rfl
@[simp] theorem openLink_rMeaning (n : Nat) (b : Bool) (s : State) :
    (openLink n b s).rMeaning = s.rMeaning := rfl
@[simp] theorem openLink_inputs (n : Nat) (b : Bool) (s : State) :
    (openLink n b s).inputs = s.inputs := rfl
@[simp] theorem openLink_wire (n : Nat) (b : Bool) (s : State) :
    (openLink n b s).wire = s.wire ++ [.openAt n] := rfl

/-! ### `closeLink` -/

@[simp] theorem closeLink_cId (s : State) :
    (closeLink s).cId = s.cId := rfl
@[simp] theorem closeLink_cOp (s : State) :
    (closeLink s).cOp = s.cOp := rfl
@[simp] theorem closeLink_cParam (s : State) :
    (closeLink s).cParam = s.cParam := rfl
@[simp] theorem closeLink_cExpect (s : State) :
    (closeLink s).cExpect = s.cExpect := rfl
@[simp] theorem closeLink_rValid (s : State) :
    (closeLink s).rValid = s.rValid := rfl
@[simp] theorem closeLink_rComm (s : State) :
    (closeLink s).rComm = s.rComm := rfl
@[simp] theorem closeLink_rStatus (s : State) :
    (closeLink s).rStatus = s.rStatus := rfl
@[simp] theorem closeLink_rFlags (s : State) :
    (closeLink s).rFlags = s.rFlags := rfl
@[simp] theorem closeLink_rPayload (s : State) :
    (closeLink s).rPayload = s.rPayload := rfl
@[simp] theorem closeLink_tKind (s : State) :
    (closeLink s).tKind = s.tKind := rfl
@[simp] theorem closeLink_tDesc (s : State) :
    (closeLink s).tDesc = s.tDesc := rfl
@[simp] theorem closeLink_tFmask (s : State) :
    (closeLink s).tFmask = s.tFmask := rfl
@[simp] theorem closeLink_tResult (s : State) :
    (closeLink s).tResult = s.tResult := rfl
@[simp] theorem closeLink_txb (s : State) :
    (closeLink s).txb = s.txb := rfl
@[simp] theorem closeLink_txI (s : State) :
    (closeLink s).txI = s.txI := rfl
@[simp] theorem closeLink_rxb (s : State) :
    (closeLink s).rxb = s.rxb := rfl
@[simp] theorem closeLink_ses (s : State) :
    (closeLink s).ses = s.ses := rfl
@[simp] theorem closeLink_linkOpen (s : State) :
    (closeLink s).linkOpen = false := rfl
@[simp] theorem closeLink_timer (s : State) :
    (closeLink s).timer = s.timer := rfl
@[simp] theorem closeLink_rMeaning (s : State) :
    (closeLink s).rMeaning = s.rMeaning := rfl
@[simp] theorem closeLink_inputs (s : State) :
    (closeLink s).inputs = s.inputs := rfl
@[simp] theorem closeLink_wire (s : State) :
    (closeLink s).wire = s.wire ++ [.close] := rfl

end Sys2Proof.Machine
end

