-- ==== Sys2Proof/Laws/Ops.lean ====
section
/-! SUPPORT. For each shared operation, one lemma that says once everything it can do. -/

namespace Sys2Proof.Machine

/-! ## Readiness -/

theorem cmdReady_iff (s : State) : s.cmdReady = true ↔ s.ses = .idle ∧ s.linkOpen = true := by
  simp [State.cmdReady]

theorem openReady_iff (s : State) : s.openReady = true ↔ s.ses = .idle ∧ s.linkOpen = false := by
  simp [State.openReady]

theorem closeReady_iff (s : State) : s.closeReady = true ↔ s.ses = .idle ∧ s.linkOpen = true := by
  simp [State.closeReady]

theorem port_of_inputs {s : State} {p : PortInputs} {ps : List PortInputs} (h : s.inputs = p :: ps) : s.port = p := by
  simp [State.port, h]

/-! ## Instructions -/

theorem validateRaw_none_iff (id : Byte) (ps : List Byte) :
    validateRaw id ps = none ↔ operandsWellFormed id ps = true := by
  simp only [validateRaw, operandsWellFormed, Bool.and_eq_true, bne_iff_ne, decide_eq_true_eq]
  split
  · simp_all
  · split <;> simp_all

/-- What a raw command can do: wait, fail validation, or be accepted (rules R131, R190, R191). -/
theorem acceptRaw_cases (op id : Byte) (ps : List Byte) (resp : Bool) (s : State) :
    (s.cmdReady = false ∧ acceptRaw op id ps resp s = s) ∨
    (s.cmdReady = true ∧ ∃ k, validateRaw id ps = some k ∧ acceptRaw op id ps resp s = raiseValidation k s) ∨
    (s.cmdReady = true ∧ operandsWellFormed id ps = true ∧
      acceptRaw op id ps resp s = startTransaction .raw id op ps resp s) := by
  cases hr : s.cmdReady with
  | false => exact .inl ⟨rfl, by simp [acceptRaw, hr]⟩
  | true =>
    refine .inr ?_
    cases hv : validateRaw id ps with
    | some k => exact .inl ⟨rfl, k, rfl, by simp [acceptRaw, hr, hv]⟩
    | none => exact .inr ⟨rfl, (validateRaw_none_iff id ps).1 hv, by simp [acceptRaw, hr, hv]⟩

/-- Every instruction is `acceptRaw` on its own fields. -/
theorem exec_eq (i : Instr) (s : State) : exec i s = .next (acceptRaw i.opcode i.id i.params i.resp s) := by
  cases i <;> rfl

theorem wellFormed_eq (i : Instr) : i.wellFormed = operandsWellFormed i.id i.params := by
  cases i <;> rfl

/-- A decoded command has the fields it was decoded from (rule R84). -/
theorem decodeCommand_some {id op : Byte} {ps : List Byte} {resp : Bool} {i : Instr}
    (h : decodeCommand id op ps resp = some i) : i.id = id ∧ i.opcode = op ∧ i.params = ps ∧ i.resp = resp := by
  unfold decodeCommand at h
  repeat' split at h
  all_goals first
    | (cases h; simp_all [Instr.id, Instr.opcode, Instr.params, Instr.resp])
    | cases h

/-- Whether an opcode is legal does not depend on the other operands (rule R84). -/
theorem decodeCommand_isSome (id id' op : Byte) (ps ps' : List Byte) (r r' : Bool) :
    (decodeCommand id op ps r).isSome = (decodeCommand id' op ps' r').isSome := by
  unfold decodeCommand
  repeat' split
  all_goals rfl

/-! ## Commands -/

/-- What acceptance of any command can do (rules R131, R171 to R173, R190, R200): nothing, a validation error,
`Present(false)`, a transaction, or a transaction with the typed latch. -/
inductive Accepted (s : State) : State → Prop
  | waits : Accepted s s
  | invalid (k : ValidationKind) : Accepted s (raiseValidation k s)
  | absent : Accepted s (endAbsent s)
  | started (kind : CommandKind) (id op : Byte) (ps : List Byte) (resp : Bool)
      (hready : s.cmdReady = true) (hkind : kind = .raw ∨ kind = .ping)
      (hid : id ≠ Config.illegalId) (hop : (decodeCommand id op ps resp).isSome = true)
      (hlen : ps.length ≤ Config.maxParams) :
      Accepted s (startTransaction kind id op ps resp s)
  | latched (kind : CommandKind) (d : RegisterDescriptor) (m : ErrorFlags) (id op : Byte) (ps : List Byte)
      (resp : Bool) (hready : s.cmdReady = true)
      (hid : id ≠ Config.illegalId) (hop : (decodeCommand id op ps resp).isSome = true)
      (hlen : ps.length ≤ Config.maxParams) :
      Accepted s (latchTyped d m (startTransaction kind id op ps resp s))

theorem splitRaw_length (w : Width) (raw : Nat) : (splitRaw w raw).length = w.bytes := by
  cases w <;> rfl

/-- What `EncodeValue` accepts has the register's width (rule R170). -/
theorem encodeValue_length {d : RegisterDescriptor} {v : Rat} {data : List Byte} (h : encodeValue d v = .ok data) :
    data.length = d.width.bytes := by
  unfold encodeValue at h
  split at h
  · cases h
  · split at h
    · cases h
    · split at h
      · cases h
      · cases h; exact splitRaw_length ..

theorem execInstr_accepted (i : Instr) (s t : State) (h : exec i s = .next t) : Accepted s t := by
  rw [exec_eq] at h
  cases h
  obtain ⟨-, h⟩ | ⟨-, k, -, h⟩ | ⟨hr, hw, h⟩ := acceptRaw_cases i.opcode i.id i.params i.resp s
  · rw [h]; exact .waits
  · rw [h]; exact .invalid k
  · rw [h]
    simp only [operandsWellFormed, Bool.and_eq_true, bne_iff_ne, decide_eq_true_eq] at hw
    refine .started _ _ _ _ _ hr (.inl rfl) hw.1 ?_ hw.2
    cases i <;> rfl

theorem acceptPing_accepted (id : Byte) (s : State) : Accepted s (acceptPing id s) := by
  unfold acceptPing
  split
  · exact .waits
  · split
    · exact .absent
    · rename_i hr hid
      refine .started _ _ _ _ _ (by simpa using hr) (.inr rfl) ?_ rfl (by simp)
      rintro rfl; revert hid; decide

theorem acceptReadReg_accepted (cfg : Params) (id a : Byte) (m : Option ErrorFlags) (s : State) :
    Accepted s (acceptReadReg cfg id a m s) := by
  unfold acceptReadReg
  split
  · exact .waits
  · split
    · exact .invalid _
    · split
      · exact .invalid _
      · rename_i hr hid _ _ _
        refine .latched _ _ _ _ _ _ _ (by simpa using hr) ?_ rfl (by simp [Config.maxParams])
        rintro rfl; revert hid; decide

theorem acceptWriteReg_accepted (cfg : Params) (id a : Byte) (v : Rat) (m : Option ErrorFlags) (s : State) :
    Accepted s (acceptWriteReg cfg id a v m s) := by
  unfold acceptWriteReg
  split
  · exact .waits
  · split
    · exact .invalid _
    · split
      · exact .invalid _
      · split
        · exact .invalid _
        · split
          · exact .invalid _
          · rename_i hr hid _ d _ _ _ data hd
            refine .latched _ _ _ _ _ _ _ (by simpa using hr) ?_ rfl ?_
            · rintro rfl; revert hid; decide
            · have := encodeValue_length hd
              have : d.width.bytes ≤ 2 := by cases d.width <;> decide
              simp [Config.maxParams]; omega

/-- Acceptance of a command always answers a next state, one of `Accepted`. -/
theorem acceptCommand_accepted (cfg : Params) (c : Command) (s : State) :
    ∃ t, acceptCommand cfg c s = .next t ∧ Accepted s t := by
  cases c with
  | exec id op ps resp =>
    unfold acceptCommand
    dsimp only
    split
    · rename_i i _
      exact ⟨_, exec_eq i s, execInstr_accepted i s _ (exec_eq i s)⟩
    · exact ⟨_, rfl, .invalid _⟩
  | ping id => exact ⟨_, rfl, acceptPing_accepted id s⟩
  | readReg id a m => exact ⟨_, rfl, acceptReadReg_accepted cfg id a m s⟩
  | writeReg id a v m => exact ⟨_, rfl, acceptWriteReg_accepted cfg id a v m s⟩

/-! ## The session -/

/-- Everything one step in `SEND` can do (rules R132 to R134). -/
theorem sendStep_cases (p : PortInputs) (s : State) :
    (s.txI < s.txLen ∧ p.txReady = true ∧ sendStep p s = transmitByte s) ∨
    (s.txI < s.txLen ∧ p.txReady = false ∧ sendStep p s = s) ∨
    (s.txLen ≤ s.txI ∧ s.cExpect = true ∧ sendStep p s = startReception s) ∨
    (s.txLen ≤ s.txI ∧ s.cExpect = false ∧ sendStep p s = endTransaction unawaitedResult s) := by
  unfold sendStep
  by_cases h : s.txI < s.txLen
  · cases hp : p.txReady <;> simp [h]
  · cases he : s.cExpect <;> simp [h] <;> omega

/-- Everything a delivered byte can do in `RECV` (rules R135 to R137). -/
theorem receiveByte_cases (cfg : Params) (b : Byte) (s : State) :
    (frameComplete (s.rxb ++ [b]) = true ∧
      receiveByte cfg b s =
        endTransaction (decodeResponse cfg.errBit (s.rxb ++ [b]) s.cId) { s with rxb := s.rxb ++ [b] }) ∨
    (frameComplete (s.rxb ++ [b]) = false ∧ receiveByte cfg b s = { s with rxb := s.rxb ++ [b] }) := by
  cases h : frameComplete (s.rxb ++ [b]) <;> simp [receiveByte, h]

/-- Everything a tick can do in `RECV` (rules R138 to R140). -/
theorem tickReception_cases (cfg : Params) (s : State) :
    (s.timer + 1 < cfg.timeoutTicks ∧ tickReception cfg s = { s with timer := s.timer + 1 }) ∨
    (cfg.timeoutTicks ≤ s.timer + 1 ∧ tickReception cfg s = expire cfg { s with timer := s.timer + 1 }) := by
  unfold tickReception
  by_cases h : s.timer + 1 < cfg.timeoutTicks
  · simp [h]
  · simp [h]; omega

/-- Everything one step of the block can do (rules R131, R147, R260, R273, U17). -/
theorem serveInputs_cases (cfg : Params) (p : PortInputs) (s : State) :
    (p.client = .reset ∧ serveInputs cfg p s = .next (resetBlock s)) ∨
    (p.client = .readResult ∧ s.rValid = false ∧ serveInputs cfg p s = .fault .resultNotReadable) ∨
    (∃ c t, p.client = .present c ∧ s.cmdReady = true ∧ Accepted s t ∧ serveInputs cfg p s = .next t) ∨
    (∃ n, p.client = .openReq n ∧ s.openReady = true ∧ serveInputs cfg p s = .next (openLink n p.canOpen s)) ∨
    (p.client = .closeReq ∧ s.closeReady = true ∧ serveInputs cfg p s = .next (closeLink s)) ∨
    serveInputs cfg p s = .next (sessionStep cfg p s) := by
  unfold serveInputs
  cases hc : p.client with
  | quiet => simp
  | present c =>
    cases hr : s.cmdReady with
    | false => simp
    | true =>
      obtain ⟨t, h, ha⟩ := acceptCommand_accepted cfg c s
      simp [h]
      exact .inl ha
  | openReq n => cases hr : s.openReady <;> simp
  | closeReq => cases hr : s.closeReady <;> simp
  | readResult => cases hv : s.rValid <;> simp
  | reset => simp

end Sys2Proof.Machine
end

