-- ==== Sys2Proof/Laws/PerInstr.lean ====
section
/-! SUPPORT. What holds of every instruction as syntax, one lemma per constructor. -/

namespace Sys2Proof.Laws

/-- The command record of an instruction decodes to it, and the opcode map gives no other instruction for it
(`30_encoding.md` rule R84). -/
def CommandRoundTrip.Statement (i : Instr) : Prop :=
  decodeCommand i.id i.opcode i.params i.resp = some i

theorem CommandRoundTrip.ping (id : Byte) (ps : List Byte) (resp : Bool) :
    CommandRoundTrip.Statement (.ping id ps resp) := rfl
theorem CommandRoundTrip.read (id : Byte) (ps : List Byte) (resp : Bool) :
    CommandRoundTrip.Statement (.read id ps resp) := rfl
theorem CommandRoundTrip.write (id : Byte) (ps : List Byte) (resp : Bool) :
    CommandRoundTrip.Statement (.write id ps resp) := rfl
theorem CommandRoundTrip.regWrite (id : Byte) (ps : List Byte) (resp : Bool) :
    CommandRoundTrip.Statement (.regWrite id ps resp) := rfl
theorem CommandRoundTrip.action (id : Byte) (ps : List Byte) (resp : Bool) :
    CommandRoundTrip.Statement (.action id ps resp) := rfl
theorem CommandRoundTrip.reset (id : Byte) (ps : List Byte) (resp : Bool) :
    CommandRoundTrip.Statement (.reset id ps resp) := rfl
theorem CommandRoundTrip.syncWrite (id : Byte) (ps : List Byte) (resp : Bool) :
    CommandRoundTrip.Statement (.syncWrite id ps resp) := rfl

end Sys2Proof.Laws
end

