-- ==== Sys2Proof/Tests/Slice0.lean ====
section
/-! SUPPORT. The model's own tests, on the worked values of `95_test_vectors.md`, and for every statement with
hypotheses a concrete case that meets them. -/

namespace Sys2Proof.Tests

open Sys2Proof.Machine

-- One theorem at a time: each pending `decide +kernel` would hold a thread with its stack.
set_option Elab.async false

/-! ## The example table and states (`95_test_vectors.md` section 0) -/

/-- A row of `REGTAB_EX`; the storage class is read by no rule. -/
def reg (a : Byte) (w : Width) (acc : Access) (e : Encoding) (scale lo hi : Rat) : RegisterDescriptor :=
  { address := a, width := w, storage := .sram, access := acc, encoding := e, scale := scale, min := lo, max := hi }

def rOfs : RegisterDescriptor := reg 0x1F .two .readWrite (.signedDirectionBit 11) 1 (-2047) 2047
def rAcc : RegisterDescriptor := reg 0x29 .one .readWrite .unsigned 1 0 254
def rGoal : RegisterDescriptor := reg 0x2A .two .readWrite (.signedDirectionBit 15) 1 (-32767) 32767
def rPos : RegisterDescriptor := reg 0x38 .two .readOnly .unsigned 1 0 4095
def rVolt : RegisterDescriptor := reg 0x3E .one .readOnly .unsigned (1 / 10) 0 (51 / 2)

/-- All flags but Overload (`95_test_vectors.md` section 0). -/
def exMask : ErrorFlags :=
  { voltage := true, sensor := true, temperature := true, current := true, angle := true, overload := false }

/-- Five rows of `REGTAB_EX`, two ticks, the masks of the vectors. -/
def ex : Params :=
  { regTab := [rOfs, rAcc, rGoal, rPos, rVolt], timeoutTicks := 2, fmaskRead := exMask, fmaskWrite := exMask
    errBit := errBitListing }

/-- After reset and `OPEN`. -/
def ready : State := { State.reset with linkOpen := true }

/-- `s` at a step with the port inputs `p`. -/
def at1 (p : PortInputs) (s : State) : State := { s with inputs := [p] }

/-- `ready` with a command presented. -/
def given (c : Command) : State := at1 (presentInputs c) ready

def byteIn (b : Byte) : PortInputs := { PortInputs.quiet with rx := some b }
def tickIn : PortInputs := { PortInputs.quiet with tick := true }
def readyIn : PortInputs := { PortInputs.quiet with txReady := true }
def clientDoes (a : ClientAct) : PortInputs := { PortInputs.quiet with client := a }

/-- The state right after `PING` of ID 1 was accepted. -/
def sending : State := startTransaction .raw 1 0x01 [] true ready

/-- A transaction whose request is out, `k` awaiting a response of ID 1 with `rx` received; `d` is latched. -/
def awaiting (k : CommandKind) (op : Byte) (ps : List Byte) (d : RegisterDescriptor) (rx : List Byte) : State :=
  { latchTyped d exMask (startTransaction k 1 op ps true ready) with
    txI := ps.length + 6, rxb := rx, ses := .recv }

/-- `READREG 1, 0x38` in reception. -/
def reading (rx : List Byte) : State := awaiting .readReg 0x02 [0x38, 0x02] rPos rx

/-- `PING` of ID 1, raw, in reception. -/
def pinging (rx : List Byte) : State := awaiting .raw 0x01 [] rPos rx

/-- The longest parameter list, and one byte more. -/
def ps253 : List Byte := List.replicate 253 0
def ps254 : List Byte := List.replicate 254 0

/-! ## Well-formedness: an ill-formed term for each check (rules R31, R29, R191) -/

theorem test_wf_table : ex.wellFormed = true := by decide +kernel
theorem test_wf_address_end : (reg 0xFF .two .readWrite .unsigned 1 0 1).wellFormed = false := by decide +kernel
theorem test_wf_address_last : (reg 0xFE .two .readWrite .unsigned 1 0 1).wellFormed = true := by decide +kernel
theorem test_wf_direction_bit : (reg 0 .one .readWrite (.signedDirectionBit 8) 1 0 1).wellFormed = false := by
  decide +kernel
theorem test_wf_scale : (reg 0 .one .readWrite .unsigned 0 0 1).wellFormed = false := by decide +kernel
theorem test_wf_range : (reg 0 .one .readWrite .unsigned 1 2 1).wellFormed = false := by decide +kernel
theorem test_wf_address_twice : tableWellFormed [rOfs, rOfs] = false := by decide +kernel
theorem test_wf_ticks : { ex with timeoutTicks := 0 }.wellFormed = false := by decide +kernel
theorem test_wf_id : (Instr.ping 255 [] true).wellFormed = false := by decide
theorem test_wf_params : (Instr.write 1 ps254 true).wellFormed = false := by decide +kernel
theorem test_wf_params_longest : (Instr.write 1 ps253 true).wellFormed = true := by decide +kernel

/-! ## Decoding: words written out from V-ENC, and their encodings -/

theorem test_decode_ping : decodeFrame true [0xFF, 0xFF, 0x01, 0x02, 0x01, 0xFB] = .ok (.ping 1 [] true) := by decide
theorem test_decode_read :
    decodeFrame true [0xFF, 0xFF, 0x03, 0x04, 0x02, 0x42, 0x01, 0xB3] = .ok (.read 3 [0x42, 0x01] true) := by decide
theorem test_decode_write :
    decodeFrame true [0xFF, 0xFF, 0x01, 0x05, 0x03, 0x1F, 0xF4, 0x09, 0xDA] =
      .ok (.write 1 [0x1F, 0xF4, 0x09] true) := by decide
theorem test_decode_regWrite :
    decodeFrame true [0xFF, 0xFF, 0x01, 0x05, 0x04, 0x2A, 0x00, 0x08, 0xC3] =
      .ok (.regWrite 1 [0x2A, 0x00, 0x08] true) := by decide
theorem test_decode_action :
    decodeFrame false [0xFF, 0xFF, 0xFE, 0x02, 0x05, 0xFA] = .ok (.action 254 [] false) := by decide
theorem test_decode_reset :
    decodeFrame true [0xFF, 0xFF, 0x01, 0x02, 0x06, 0xF6] = .ok (.reset 1 [] true) := by decide
theorem test_decode_syncWrite :
    decodeFrame false [0xFF, 0xFF, 0xFE, 0x0A, 0x83, 0x2A, 0x02, 0x01, 0x00, 0x08, 0x02, 0xFF, 0x07, 0x37] =
      .ok (.syncWrite 254 [0x2A, 0x02, 0x01, 0x00, 0x08, 0x02, 0xFF, 0x07] false) := by decide
theorem test_decode_reserved : decodeFrame true [0xFF, 0xFF, 0x01, 0x02, 0x07, 0xF5] = .error .illegalOpcode := by
  decide
theorem test_decode_illegal_id : decodeFrame true [0xFF, 0xFF, 0xFF, 0x02, 0x01, 0xFD] = .error .illegalId := by
  decide
theorem test_decode_table :
    [1, 2, 3, 4, 5, 6, 0x83].map (fun w => (decodeTableWord 8 w).map Instr.opcode) =
      [some 1, some 2, some 3, some 4, some 5, some 6, some 0x83] ∧ decodeTableWord 8 0 = none := by decide
/-- V-ENC rows 3 and 4: the checksum truncates. -/
theorem test_encode_truncates :
    encode (.ping 253 [] true) = [0xFF, 0xFF, 0xFD, 0x02, 0x01, 0xFF] ∧
      encode (.ping 252 [] true) = [0xFF, 0xFF, 0xFC, 0x02, 0x01, 0x00] := by decide
/-- V-ENC rows 14 and 15: the longest frames. -/
theorem test_encode_longest :
    encode (.write 1 ps253 true) = [0xFF, 0xFF, 0x01, 0xFF, 0x03] ++ ps253 ++ [0xFC] ∧
      byteAt (encode (.syncWrite 254 (List.replicate 253 0xFF) false)) 258 = 0x7C := by decide +kernel

/-! ## Decode of responses: V-DEC -/

def dec (raw : List Byte) : TransactionResult := decodeResponse errBitListing raw 1

/-- V-DEC rows 1 and 4. -/
theorem test_dec_success :
    (dec [0xFF, 0xFF, 0x01, 0x04, 0x00, 0x00, 0x08, 0xF2]).payload = [0x00, 0x08] ∧
      (dec [0xFF, 0xFF, 0x01, 0x02, 0x21, 0xDB]).flags = { noFlags with voltage := true, overload := true } := by decide
/-- V-DEC rows 6, 8, 9, 10, 12, 14: `MalformedLength`. -/
theorem test_dec_malformed :
    [[], [0xFF, 0xFF, 0x01], [0xFF, 0xFF, 0x01, 0x00], [0xFF, 0xFF, 0x01, 0x01, 0xFD],
        [0xFF, 0xFF, 0x01, 0x04, 0x00, 0x00, 0x08, 0xF2, 0x00], [0x00, 0xFF, 0xFF, 0x01, 0x02, 0x00, 0xFC]].map
      (fun raw => (dec raw).comm) = List.replicate 6 .malformedLength := by decide
/-- V-DEC rows 16 and 17: the ID before the checksum. -/
theorem test_dec_order :
    (dec [0xFF, 0xFF, 0x02, 0x04, 0x00, 0x00, 0x08, 0x00]).comm = .idMismatch ∧
      (dec [0xFF, 0xFF, 0x01, 0x02, 0x00, 0xFD]).comm = .checksumMismatch := by decide

/-! ## The value codec: V-VAL -/

/-- V-VAL rows 3, 5, 7, 8 (rows 7 and 8 by their ranges). -/
theorem test_val_encode_signed :
    encodeValue rOfs (-1) = .ok [0x01, 0x08] ∧ encodeValue rOfs (-2047) = .ok [0xFF, 0x0F] ∧
      encodeValue { rOfs with min := -4000, max := 4000 } 2048 = .error .notRepresentable ∧
      encodeValue rOfs 2048 = .error .outOfRange := by decide +kernel
/-- V-VAL rows 15, 17, 18, 19. -/
theorem test_val_encode_unsigned :
    encodeValue { rAcc with max := 300 } 256 = .error .notRepresentable ∧ encodeValue rVolt 12 = .ok [0x78] ∧
      encodeValue rVolt (121 / 100) = .error .notRepresentable ∧
      encodeValue { rAcc with min := -5 } (-1) = .error .notRepresentable := by decide +kernel
/-- V-VAL rows 20 to 24, 28. -/
theorem test_val_decode :
    [[0xF4, 0x09], [0x00, 0x08], [0x05, 0x10], [0x05, 0x18]].map (decodeValue rOfs) = [-500, 0, 4101, -4101] ∧
      decodeValue rGoal [0xFF, 0xFF] = -32767 ∧ decodeValue rVolt [0x78] = 12 := by decide +kernel

/-! ## Instructions: one step each (V-SES, V-DISP, V-ENC) -/

/-- What one step puts in the transmit buffer, whether a response is awaited, and the session. -/
def accepted (s : State) : Option (List Byte × Bool × Session) :=
  match stepWith ex s with
  | .next t => some (t.txb, t.cExpect, t.ses)
  | _ => none

/-- What one step leaves in `t_result`, while it is readable. -/
def result (s : State) : Option TypedResult :=
  match stepWith ex s with
  | .next t => readTypedResult t
  | _ => none

theorem test_ping : accepted (given (.exec 1 0x01 [] true)) =
    some ([0xFF, 0xFF, 0x01, 0x02, 0x01, 0xFB], true, .send) := by decide +kernel
/-- V-DISP row 9: a broadcast is not awaited. -/
theorem test_ping_broadcast : accepted (given (.exec 254 0x01 [] true)) =
    some ([0xFF, 0xFF, 0xFE, 0x02, 0x01, 0xFE], false, .send) := by decide +kernel
/-- V-DISP row 5. -/
theorem test_ping_illegal_id :
    result (given (.exec 255 0x01 [] true)) = some (.validationError .invalidId) := by decide +kernel
theorem test_read : accepted (given (.exec 1 0x02 [0x38, 0x02] true)) =
    some ([0xFF, 0xFF, 0x01, 0x04, 0x02, 0x38, 0x02, 0xBE], true, .send) := by decide +kernel
theorem test_write : accepted (given (.exec 1 0x03 [0x2A, 0x00, 0x08] false)) =
    some ([0xFF, 0xFF, 0x01, 0x05, 0x03, 0x2A, 0x00, 0x08, 0xC4], false, .send) := by decide +kernel
/-- V-DISP row 7. -/
theorem test_write_too_long :
    result (given (.exec 1 0x03 ps254 true)) = some (.validationError .paramsTooLong) := by decide +kernel
theorem test_regWrite : accepted (given (.exec 1 0x04 [0x2A, 0x00, 0x08] true)) =
    some ([0xFF, 0xFF, 0x01, 0x05, 0x04, 0x2A, 0x00, 0x08, 0xC3], true, .send) := by decide +kernel
/-- V-SES row 7. -/
theorem test_action : accepted (given (.exec 254 0x05 [] true)) =
    some ([0xFF, 0xFF, 0xFE, 0x02, 0x05, 0xFA], false, .send) := by decide +kernel
theorem test_reset : accepted (given (.exec 1 0x06 [] true)) =
    some ([0xFF, 0xFF, 0x01, 0x02, 0x06, 0xF6], true, .send) := by decide +kernel
theorem test_syncWrite : accepted (given (.exec 254 0x83 [0x2A, 0x02, 0x01, 0x00, 0x08, 0x02, 0xFF, 0x07] false)) =
    some ([0xFF, 0xFF, 0xFE, 0x0A, 0x83, 0x2A, 0x02, 0x01, 0x00, 0x08, 0x02, 0xFF, 0x07, 0x37], false, .send) := by
  decide +kernel
/-- V-DISP row 6: the opcode is tested first. -/
theorem test_illegal_opcode :
    result (given (.exec 255 0x00 [] true)) = some (.validationError .illegalOpcode) := by decide +kernel
/-- The first instruction after reset, for the seven table words. -/
theorem test_table_words_run :
    [1, 2, 3, 4, 5, 6, 0x83].all (fun w => match step (State.reset.withFetchWord 8 w) with
      | .next t => t.cOp == BitVec.ofNat 8 w && t.ses == .send
      | _ => false) = true := by decide +kernel

/-! ## The session: V-SES -/

/-- The `r_comm` that one step leaves, while it is readable. -/
def comm (s : State) : Option CommResult :=
  match stepWith ex s with
  | .next t => (readTransaction t).map TransactionResult.comm
  | _ => none

/-- V-SES row 4: the sixth byte in the same step as the last tick. -/
theorem test_byte_before_tick :
    comm (at1 { tickIn with rx := some 0xFC } { pinging [0xFF, 0xFF, 0x01, 0x02, 0x00] with timer := 1 }) =
      some .success := by decide +kernel
/-- V-SES rows 2 and 3: nothing received, and a part of a frame. -/
theorem test_timeouts :
    comm (at1 tickIn { pinging [] with timer := 1 }) = some .timeout ∧
      comm (at1 tickIn { pinging [0xFF, 0xFF, 0x01] with timer := 1 }) = some .malformedLength := by decide +kernel
/-- V-SES row 5: no resynchronisation. -/
theorem test_no_resync :
    comm (at1 (byteIn 0x02) (pinging [0x00, 0xFF, 0xFF, 0x01])) = some .malformedLength := by decide +kernel
/-- V-SES row 9: a late answer of ID 5. -/
theorem test_late_answer :
    comm (at1 (byteIn 0xF8) (pinging [0xFF, 0xFF, 0x05, 0x02, 0x00])) = some .idMismatch := by decide +kernel

/-! ## Typed commands: V-REG -/

/-- V-REG rows 1 and 13: what is sent. -/
theorem test_readReg_frame : accepted (given (.readReg 1 0x38 none)) =
    some ([0xFF, 0xFF, 0x01, 0x04, 0x02, 0x38, 0x02, 0xBE], true, .send) := by decide +kernel
theorem test_writeReg_frame : accepted (given (.writeReg 1 0x1F (-500) none)) =
    some ([0xFF, 0xFF, 0x01, 0x05, 0x03, 0x1F, 0xF4, 0x09, 0xDA], true, .send) := by decide +kernel
/-- V-REG row 15: a broadcast write is not awaited. -/
theorem test_writeReg_broadcast : accepted (given (.writeReg 254 0x29 50 none)) =
    some ([0xFF, 0xFF, 0xFE, 0x04, 0x03, 0x29, 0x32, 0x9F], false, .send) := by decide +kernel
/-- V-REG rows 1, 4 and 6: value, a flag outside the mask, a payload of the wrong size. -/
theorem test_readReg_result :
    result (at1 (byteIn 0xF2) (reading [0xFF, 0xFF, 0x01, 0x04, 0x00, 0x00, 0x08])) = some (.value 2048) ∧
      result (at1 (byteIn 0x2B) (reading [0xFF, 0xFF, 0x01, 0x04, 0x20, 0xA0, 0x0F])) = some (.value 4000) ∧
      result (at1 (byteIn 0x83) (reading [0xFF, 0xFF, 0x01, 0x03, 0x00, 0x78])) = some (.payloadWidthMismatch 1) := by
  decide +kernel
/-- V-REG rows 3 (with the position register), 7 to 12 and 19: failures. -/
theorem test_readReg_flag :
    result (at1 (byteIn 0xF1) (reading [0xFF, 0xFF, 0x01, 0x04, 0x01, 0x00, 0x08])) =
      some (.deviceError { noFlags with voltage := true }) := by decide +kernel
theorem test_typed_refusals :
    [Command.writeReg 1 0x1F 2048 none, .writeReg 1 0x29 255 none, .writeReg 1 0x38 100 none, .writeReg 1 0x10 0 none,
        .writeReg 255 0x29 50 none, .readReg 254 0x38 none].map (fun c => result (given c)) =
      [ValidationKind.outOfRange, .outOfRange, .readOnlyRegister, .unknownRegister, .invalidId, .invalidId].map
        (fun k => some (.validationError k)) ∧
      result (given (.ping 254)) = some (.present false) := by decide +kernel

/-! ## The statements' hypotheses are met -/

/-! ### Codec, decoding -/

theorem witness_EncodedFrameHasRequestLayout : ps253.length ≤ 253 ∧ 252 < ps253.length := by decide +kernel
theorem witness_DecodeInvertsEncode : ps253.length ≤ 253 := by decide +kernel
theorem witness_DecodeSucceedsExactlyOnFrames :
    (dec (encodeRequest 1 0x00 ps253)).comm = .success ∧ ps253.length ≤ 253 := by decide +kernel
theorem witness_DecodeVerifiesInOrder_sync : ([] : List Byte).take 2 ≠ [0xFF, 0xFF] := by decide
theorem witness_DecodeVerifiesInOrder_short : ([0xFF, 0xFF, 0x01] : List Byte).length < 4 := by decide
theorem witness_DecodeVerifiesInOrder_small : (byteAt [0xFF, 0xFF, 0x01, 0x01, 0xFD] 3).toNat < 2 := by decide
theorem witness_DecodeVerifiesInOrder_count :
    ([0xFF, 0xFF, 0x01, 0x02, 0x00] : List Byte).length - 4 ≠ (byteAt [0xFF, 0xFF, 0x01, 0x02, 0x00] 3).toNat := by
  decide

/-- The premises of the last clause of `DecodeVerifiesInOrder`, for expected ID 1. -/
def framed (raw : List Byte) : Bool :=
  raw.take 2 = [0xFF, 0xFF] ∧ 4 ≤ raw.length ∧ 2 ≤ (byteAt raw 3).toNat ∧ raw.length - 4 = (byteAt raw 3).toNat

theorem witness_DecodeVerifiesInOrder_id :
    framed [0xFF, 0xFF, 0x02, 0x02, 0x00, 0xFB] = true ∧ byteAt [0xFF, 0xFF, 0x02, 0x02, 0x00, 0xFB] 2 ≠ 1 := by
  decide
theorem witness_DecodeVerifiesInOrder_checksum :
    framed [0xFF, 0xFF, 0x01, 0x02, 0x00, 0xFD] = true ∧ byteAt [0xFF, 0xFF, 0x01, 0x02, 0x00, 0xFD] 2 = 1 ∧
      sumBytes ([0xFF, 0xFF, 0x01, 0x02, 0x00, 0xFD].drop 2) % 256 ≠ 255 := by decide
theorem witness_DecodeVerifiesInOrder_success :
    framed [0xFF, 0xFF, 0x01, 0x02, 0x00, 0xFC] = true ∧ byteAt [0xFF, 0xFF, 0x01, 0x02, 0x00, 0xFC] 2 = 1 ∧
      sumBytes ([0xFF, 0xFF, 0x01, 0x02, 0x00, 0xFC].drop 2) % 256 = 255 := by decide
theorem witness_DecodeFailuresAreEmpty : (dec []).comm ≠ .success := by decide
/-- The changed byte at each boundary index: 0, 1, 2, 3, 4 and the checksum (V-DEC-FLIP). -/
theorem witness_SingleByteChangeIsDetected :
    ([0x00, 0x08] : List Byte).length ≤ 253 ∧
      [(0, 0xFE), (1, 0xFE), (2, 0x00), (3, 0x05), (4, 0x01), (7, 0xF3)].all (fun q : Nat × Byte =>
        decide (q.1 < ([0x00, 0x08] : List Byte).length + 6) &&
          (q.2 != byteAt (encodeRequest 1 0x00 [0x00, 0x08]) q.1)) = true := by decide
theorem witness_EncodeIsInjective : encodeRequest 1 0x01 [] = [0xFF, 0xFF, 0x01, 0x02, 0x01, 0xFB] := by decide
theorem witness_StatusBitsAreTheFlags : ps253.length ≤ 253 := by decide +kernel
theorem witness_InstrDecodesFromItsFrame :
    (Instr.write 1 ps253 true).wellFormed = true ∧ (Instr.ping 0 [] true).wellFormed = true := by decide +kernel
theorem witness_DecodedFrameIsTheInstrsFrame :
    decodeFrame true [0xFF, 0xFF, 0x01, 0x02, 0x01, 0xFB] = .ok (.ping 1 [] true) := by decide

/-! ### Instructions -/

theorem witness_StepRunsPresentedInstruction :
    (given (.exec 1 0x01 [] true)).ses = .idle ∧ (given (.exec 1 0x01 [] true)).linkOpen = true ∧
      (given (.exec 1 0x01 [] true)).port.client = .present (.exec 1 0x01 [] true) ∧
      decodeCommand 1 0x01 [] true = some (.ping 1 [] true) := by decide +kernel
theorem witness_TableWordRunsFirst : decodeTableWord 8 0x83 = some (.syncWrite 0 [] false) := by decide
theorem witness_RawCommandIsAccepted :
    ready.ses = .idle ∧ ready.linkOpen = true ∧ (Instr.write 1 ps253 true).id ≠ 255 ∧
      (Instr.write 1 ps253 true).params.length ≤ 253 := by decide +kernel
theorem witness_RawCommandIsAccepted_broadcast :
    (Instr.syncWrite 254 [] true).id ≠ 255 ∧ (Instr.syncWrite 254 [] true).params.length ≤ 253 := by decide
theorem witness_RawCommandWaitsUnlessReady : sending.ses ≠ .idle ∧ State.reset.linkOpen = false := by decide
theorem witness_RawCommandFailsValidation :
    (ready.ses = .idle ∧ ready.linkOpen = true) ∧ (Instr.ping 255 [] true).id = 255 ∧
      (Instr.write 254 ps254 true).id ≠ 255 ∧ 253 < (Instr.write 254 ps254 true).params.length := by decide +kernel
theorem witness_IllegalOpcodeSendsNothing :
    (given (.exec 255 0x84 [] true)).ses = .idle ∧ (given (.exec 255 0x84 [] true)).linkOpen = true ∧
      (given (.exec 255 0x84 [] true)).port.client = .present (.exec 255 0x84 [] true) ∧
      (0x84 : Byte) ∉ ([0x01, 0x02, 0x03, 0x04, 0x05, 0x06, 0x83] : List Byte) := by decide +kernel

/-! ### The session -/

theorem witness_SendTransmitsNextByte_ready :
    (at1 readyIn sending).ses = .send ∧ (at1 readyIn sending).txI < (at1 readyIn sending).txLen ∧
      clientDefers (at1 readyIn sending).port = true ∧ (at1 readyIn sending).port.txReady = true := by decide
theorem witness_SendTransmitsNextByte_stall :
    (at1 .quiet { sending with txI := 5 }).ses = .send ∧ 5 < (at1 .quiet { sending with txI := 5 }).txLen ∧
      clientDefers (at1 .quiet { sending with txI := 5 }).port = true ∧
      (at1 .quiet { sending with txI := 5 }).port.txReady = false := by decide

/-- `sending` with the request out, and with or without a response to await. -/
def sent (expect : Bool) : State := { sending with txI := 6, cExpect := expect, inputs := [.quiet] }

theorem witness_UnawaitedCommandEndsInSuccess :
    (sent false).ses = .send ∧ (sent false).txI = (sent false).txLen ∧ (sent false).cExpect = false ∧
      clientDefers (sent false).port = true := by decide
theorem witness_ReceptionStartsEmpty :
    (sent true).ses = .send ∧ (sent true).txI = (sent true).txLen ∧ (sent true).cExpect = true ∧
      clientDefers (sent true).port = true := by decide

/-- What `ReceivedByteAppendsOrCompletes` asks of a state in which the byte `b` arrives. -/
def arrival (b : Byte) (s : State) : Bool :=
  s.ses = .recv ∧ clientDefers s.port = true ∧ s.port.rx = some b ∧ s.port.tick = false

/-- `Complete` of the bytes, as the statement writes it (rule R136). -/
def full (rx : List Byte) : Bool := 4 ≤ rx.length ∧ rx.length = 4 + (byteAt rx 3).toNat

theorem witness_ReceivedByteAppendsOrCompletes_third :
    arrival 0x01 (at1 (byteIn 0x01) (pinging [0xFF, 0xFF])) = true ∧ full [0xFF, 0xFF, 0x01] = false := by decide
theorem witness_ReceivedByteAppendsOrCompletes_fourth :
    arrival 0x00 (at1 (byteIn 0x00) (pinging [0xFF, 0xFF, 0x01])) = true ∧ full [0xFF, 0xFF, 0x01, 0x00] = true := by
  decide
theorem witness_ReceivedByteAppendsOrCompletes_sixth :
    arrival 0xFC (at1 (byteIn 0xFC) (pinging [0xFF, 0xFF, 0x01, 0x02, 0x00])) = true ∧
      full [0xFF, 0xFF, 0x01, 0x02, 0x00, 0xFC] = true := by decide

/-- A tick alone in reception, with `k` ticks counted. -/
def ticked (rx : List Byte) (k : Nat) : State := at1 tickIn { pinging rx with timer := k }

theorem witness_TicksCountToTimeout :
    ((ticked [] 0).ses = .recv ∧ clientDefers (ticked [] 0).port = true ∧ (ticked [] 0).port.rx = none ∧
        (ticked [] 0).port.tick = true) ∧
      (ticked [] 0).timer + 1 < ex.timeoutTicks ∧
      (ticked [] 1).timer + 1 = ex.timeoutTicks ∧ (ticked [] 1).rxb = [] := by decide

/-- The invariant's clauses for a state in reception, all of them decidable. -/
def recvChecks (s : State) : Bool :=
  s.ses = .recv ∧ s.linkOpen = true ∧ s.rValid = false ∧ s.cId ≠ Config.illegalId ∧
    (decodeCommand s.cId s.cOp s.cParam s.cExpect).isSome = true ∧ s.cExpect = true ∧ s.cId ≠ Config.broadcastId ∧
    s.txb = encodeRequest s.cId s.cOp s.cParam ∧ s.txI = s.txLen ∧ s.rxLen < 4 + (byteAt s.rxb 3).toNat ∧
    s.timer < ex.timeoutTicks ∧ s.cPlen ≤ Config.maxParams ∧ s.rPayload = [] ∧ s.txLen ≤ Config.maxFrame ∧
    s.rxLen ≤ Config.maxFrame ∧ s.tResult = .raw ∧ s.rComm = .success

theorem inv_of_recvChecks {s : State} (h : recvChecks s = true) : s.Inv ex := by
  obtain ⟨h1, h2, h3, h4, h5, h6, h7, h8, h9, h10, h11, h12, h13, h14, h15, h16, h17⟩ := of_decide_eq_true h
  exact
    { regs :=
        { paramBound := h12, payloadBound := by simp [State.rPlen, h13], txBound := h14, txIndex := Nat.le_of_eq h9
          rxBound := h15, timerBound := Nat.le_of_lt h11, noCommErrorSuccess := by simp [h16]
          failureEmpty := fun h => absurd h17 h }
      send := fun h => by simp [h1] at h
      recv := fun _ =>
        { inFlight := ⟨h2, h3, h4, h5, fun _ => h7, h8⟩
          sent := h9, awaited := h6, incomplete := .inr h10, budget := h11 } }

/-- A raw `PING` in reception with an incomplete frame meets the invariant. -/
theorem ticked_inv : (ticked [0xFF, 0xFF, 0x01] 1).Inv ex := inv_of_recvChecks (by decide +kernel)

theorem witness_PartialFrameTimesOutMalformed :
    (ticked [0xFF, 0xFF, 0x01] 1).ses = .recv ∧ (ticked [0xFF, 0xFF, 0x01] 1).Inv ex ∧
      clientDefers (ticked [0xFF, 0xFF, 0x01] 1).port = true ∧ (ticked [0xFF, 0xFF, 0x01] 1).port.rx = none ∧
      (ticked [0xFF, 0xFF, 0x01] 1).port.tick = true ∧
      (ticked [0xFF, 0xFF, 0x01] 1).timer + 1 = ex.timeoutTicks ∧ (ticked [0xFF, 0xFF, 0x01] 1).rxb ≠ [] :=
  ⟨rfl, ticked_inv, rfl, rfl, rfl, rfl, by decide⟩
theorem witness_BytesOutsideReceptionAreDropped : sending.ses ≠ .recv ∧ ready.ses ≠ .recv := by decide
theorem witness_BusyBlockIgnoresTheClient : sending.ses ≠ .idle ∧ (pinging []).ses ≠ .idle := by decide

/-- Six steps' worth of bytes: an answer of ID 1 to a `PING`. -/
def answer : List PortInputs := [0xFF, 0xFF, 0x01, 0x02, 0x00, 0xFC].map byteIn

/-- The inputs of a whole `PING`: five bytes out, the sixth, the gap, the answer. -/
def pingScript : List PortInputs := List.replicate 5 readyIn ++ readyIn :: PortInputs.quiet :: (answer ++ [])

theorem witness_TransactionRunsAsExecute :
    sending.ses = .send ∧ sending.txI = 0 ∧
      sending.txb = encodeRequest sending.cId sending.cOp sending.cParam ∧
      { sending with inputs := pingScript }.inputs = List.replicate 5 readyIn ++ readyIn :: .quiet :: (answer ++ []) ∧
      (∀ p ∈ List.replicate 5 readyIn ++ readyIn :: .quiet :: answer, clientDefers p = true) ∧
      (List.replicate 5 readyIn).countP (fun p => p.txReady) + 1 = sending.txLen ∧ readyIn.txReady = true ∧
      (execute ex sending.cId sending.cOp sending.cParam sending.cExpect answer).2 =
        some { comm := .success, status := 0, flags := noFlags, payload := [] } := by decide +kernel
theorem witness_RawCommandRunsToItsResult :
    (Instr.ping 1 [] true).wellFormed = true ∧ ready.ses = .idle ∧ ready.linkOpen = true ∧
      (presentInputs (.exec 1 0x01 [] true)).client =
        .present (.exec (Instr.ping 1 [] true).id (Instr.ping 1 [] true).opcode (Instr.ping 1 [] true).params true) ∧
      (∀ p ∈ List.replicate 5 readyIn ++ readyIn :: .quiet :: answer, clientDefers p = true) ∧
      (List.replicate 5 readyIn).countP (fun p => p.txReady) = (Instr.ping 1 [] true).params.length + 5 ∧
      readyIn.txReady = true ∧
      (execute ex 1 0x01 [] (true && decide ((1 : Byte) ≠ 254)) answer).2 =
        some { comm := .success, status := 0, flags := noFlags, payload := [] } := by decide +kernel
theorem witness_ReceptionEndsByItsDeadline :
    (pinging []).ses = .recv ∧ (pinging []).timer < ex.timeoutTicks ∧
      { pinging [] with inputs := [tickIn, tickIn] }.inputs = [tickIn, tickIn] ++ [] ∧
      (∀ p ∈ [tickIn, tickIn], clientDefers p = true) ∧
      ex.timeoutTicks ≤ (pinging []).timer + [tickIn, tickIn].countP (fun p => p.tick) := by decide
theorem witness_UntimedReceptionAdmitsTimed : (pinging []).ses = .recv := by decide
theorem witness_LinkControlFollowsItsRule :
    (at1 (clientDoes (.openReq 1000000)) State.reset).ses = .idle ∧
      (at1 (clientDoes (.openReq 1000000)) State.reset).port.client = .openReq 1000000 ∧
      (at1 (clientDoes (.openReq 1000000)) State.reset).linkOpen = false ∧
      (at1 (clientDoes .closeReq) ready).ses = .idle ∧ (at1 (clientDoes .closeReq) ready).port.client = .closeReq ∧
      (at1 (clientDoes .closeReq) ready).linkOpen = true := by decide +kernel
theorem witness_LinkControlFollowsItsRule_idle :
    (at1 (clientDoes (.openReq 1000000)) ready).ses = .idle ∧
      (at1 (clientDoes (.openReq 1000000)) ready).port.client = .openReq 1000000 ∧
      (at1 (clientDoes (.openReq 1000000)) ready).linkOpen = true ∧
      (at1 (clientDoes .closeReq) State.reset).ses = .idle ∧
      (at1 (clientDoes .closeReq) State.reset).port.client = .closeReq ∧
      (at1 (clientDoes .closeReq) State.reset).linkOpen = false := by decide +kernel

/-! ### Typed commands -/

/-- What every statement about an accepted typed command asks of the state. -/
def offers (c : Command) (s : State) : Bool := s.ses = .idle ∧ s.linkOpen = true ∧ s.port.client = .present c

theorem witness_TypedPingFollowsItsRule :
    (offers (.ping 253) (given (.ping 253)) = true ∧ (253 : Byte).toNat ≤ 253) ∧
      offers (.ping 254) (given (.ping 254)) = true ∧ 253 < (254 : Byte).toNat := by decide +kernel
theorem witness_ReadRegSendsRead :
    offers (.readReg 253 0x38 none) (given (.readReg 253 0x38 none)) = true ∧ (253 : Byte).toNat ≤ 253 ∧
      lookupRegister ex 0x38 = some rPos := by decide +kernel
theorem witness_ReadRegRefusals :
    (offers (.readReg 254 0x38 none) (given (.readReg 254 0x38 none)) = true ∧ 253 < (254 : Byte).toNat) ∧
      offers (.readReg 253 0x10 none) (given (.readReg 253 0x10 none)) = true ∧ (253 : Byte).toNat ≤ 253 ∧
      lookupRegister ex 0x10 = none := by decide +kernel
theorem witness_WriteRegSendsWrite :
    offers (.writeReg 254 0x1F (-500) none) (given (.writeReg 254 0x1F (-500) none)) = true ∧
      (254 : Byte).toNat ≤ 254 ∧ lookupRegister ex 0x1F = some rOfs ∧ rOfs.access = .readWrite ∧
      encodeValue rOfs (-500) = .ok [0xF4, 0x09] := by decide +kernel
theorem witness_WriteRegRefusalsInOrder_id :
    offers (.writeReg 255 0x10 0 none) (given (.writeReg 255 0x10 0 none)) = true := by decide +kernel
theorem witness_WriteRegRefusalsInOrder_lookup :
    offers (.writeReg 254 0x10 0 none) (given (.writeReg 254 0x10 0 none)) = true ∧ (254 : Byte) ≠ 255 ∧
      lookupRegister ex 0x10 = none := by decide +kernel
theorem witness_WriteRegRefusalsInOrder_access :
    offers (.writeReg 1 0x38 100 none) (given (.writeReg 1 0x38 100 none)) = true ∧ (1 : Byte) ≠ 255 ∧
      lookupRegister ex 0x38 = some rPos ∧ rPos.access = .readOnly := by decide +kernel
theorem witness_WriteRegRefusalsInOrder_range :
    offers (.writeReg 1 0x29 255 none) (given (.writeReg 1 0x29 255 none)) = true ∧
      lookupRegister ex 0x29 = some rAcc ∧ rAcc.access = .readWrite ∧ rAcc.max < (255 : Rat) ∧
      rOfs.min > (-2048 : Rat) := by decide +kernel
theorem witness_WriteRegRefusalsInOrder_value :
    offers (.writeReg 1 0x29 (1 / 2) none) (given (.writeReg 1 0x29 (1 / 2) none)) = true ∧
      lookupRegister ex 0x29 = some rAcc ∧ encodeValue rAcc (1 / 2) = .error .notRepresentable := by decide +kernel

theorem witness_ReadRegResultFollowsResponse :
    (at1 (byteIn 0xF2) (reading [0xFF, 0xFF, 0x01, 0x04, 0x00, 0x00, 0x08])).Inv ex ∧
      (at1 (byteIn 0xF2) (reading [0xFF, 0xFF, 0x01, 0x04, 0x00, 0x00, 0x08])).tKind = .readReg ∧
      [0xFF, 0xFF, 0x01, 0x04, 0x00, 0x00, 0x08] ++ [0xF2] = encodeRequest 1 0x00 [0x00, 0x08] ∧
      flagsMeet (flagDecode ex.errBit 0x00) exMask = false ∧ ([0x00, 0x08] : List Byte).length = rPos.width.bytes :=
  ⟨inv_of_recvChecks (by decide +kernel), rfl, by decide, by decide, by decide⟩
theorem witness_ReadRegResultFollowsResponse_flag :
    (at1 (byteIn 0xF1) (reading [0xFF, 0xFF, 0x01, 0x04, 0x01, 0x00, 0x08])).Inv ex ∧
      [0xFF, 0xFF, 0x01, 0x04, 0x01, 0x00, 0x08] ++ [0xF1] = encodeRequest 1 0x01 [0x00, 0x08] ∧
      flagsMeet (flagDecode ex.errBit 0x01) exMask = true :=
  ⟨inv_of_recvChecks (by decide +kernel), by decide, by decide⟩
/-- V-REG row 6: one payload byte for a register of two. -/
theorem witness_ReadRegResultFollowsResponse_width :
    (at1 (byteIn 0x83) (reading [0xFF, 0xFF, 0x01, 0x03, 0x00, 0x78])).Inv ex ∧
      [0xFF, 0xFF, 0x01, 0x03, 0x00, 0x78] ++ [0x83] = encodeRequest 1 0x00 [0x78] ∧
      flagsMeet (flagDecode ex.errBit 0x00) exMask = false ∧ ([0x78] : List Byte).length ≠ rPos.width.bytes :=
  ⟨inv_of_recvChecks (by decide +kernel), by decide, by decide, by decide⟩
theorem witness_FlagsFailOnlyThroughTheMask :
    (dec [0xFF, 0xFF, 0x01, 0x02, 0x21, 0xDB]).comm = .success ∧ (dec []).comm ≠ .success ∧
      interpretResult .writeReg rAcc exMask (dec [0xFF, 0xFF, 0x01, 0x02, 0x20, 0xDC]) ≠
        .deviceError (dec [0xFF, 0xFF, 0x01, 0x02, 0x20, 0xDC]).flags := by decide +kernel

/-! ### Values and parameters -/

theorem witness_EncodedValueDecodesToItself :
    rOfs.wellFormed = true ∧ encodeValue rOfs (-2047) = .ok [0xFF, 0x0F] := by decide +kernel
theorem witness_SignedFieldRoundTrips :
    rOfs.encoding = .signedDirectionBit 11 ∧ rOfs.width = .two ∧ rOfs.scale = 1 ∧
      rOfs.min ≤ ((-2047 : Int) : Rat) ∧ ((2047 : Int) : Rat) ≤ rOfs.max := by decide +kernel
theorem witness_DirectionBitIsSignMagnitude : (0x7FF : Nat).testBit 11 = false := by decide
theorem witness_EncodeValueFollowsItsTests :
    0 < rOfs.scale ∧ rOfs.max < 2048 ∧ (rOfs.min ≤ 2047 ∧ (2047 : Rat) ≤ rOfs.max ∧ (2047 : Int).natAbs < 2 ^ 11) ∧
      0 < rAcc.scale ∧ rAcc.encoding = .unsigned ∧ (254 : Int) < 2 ^ (8 * rAcc.width.bytes) ∧
      2 ^ (8 * rAcc.width.bytes) ≤ (256 : Int) := by decide +kernel
/-- A half is no multiple of the scale 1. -/
theorem witness_EncodeValueFollowsItsTests_scale :
    rAcc.min ≤ 1 / 2 ∧ 1 / 2 ≤ rAcc.max ∧ ∀ q : Int, (1 / 2 : Rat) ≠ q * rAcc.scale := by
  refine ⟨by decide +kernel, by decide +kernel, fun q h => ?_⟩
  have h2 : (1 : Rat) = ((2 * q : Int) : Rat) := by
    have e : rAcc.scale = 1 := rfl
    rw [e] at h
    push_cast
    linarith
  have h3 : (1 : Int) = 2 * q := by exact_mod_cast h2
  omega
theorem witness_ParametersAreWellFormed :
    ex.wellFormed = true ∧ { ex with timeoutTicks := 0 }.wellFormed = false := by decide +kernel

/-! ### The whole machine -/

/-- A state of the invariant that takes a step. -/
theorem witness_StepKeepsInvariant :
    ex.wellFormed = true ∧ (ticked [0xFF, 0xFF, 0x01] 1).Inv ex ∧
      ∃ t, stepWith ex (ticked [0xFF, 0xFF, 0x01] 1) = .next t :=
  ⟨by decide +kernel, ticked_inv, _, rfl⟩
theorem witness_OnlyAnEarlyReadStops :
    ((at1 (clientDoes .readResult) ready).port.client = .readResult ∧
        (at1 (clientDoes .readResult) ready).rValid = false) ∧
      ¬ ((at1 .quiet ready).port.client = .readResult ∧ (at1 .quiet ready).rValid = false) := by decide +kernel
theorem witness_OnlySendTransmits : ∃ t, stepWith ex (at1 readyIn sending) = .next t := ⟨_, rfl⟩
theorem witness_SessionTransitionsAreClosed :
    (given (.ping 1)).port.client ≠ .reset ∧ ∃ t, stepWith ex (given (.ping 1)) = .next t ∧ t.ses = .send :=
  ⟨by decide +kernel, _, rfl, rfl⟩
theorem witness_SessionTransitionsAreClosed_recv :
    (sent true).port.client ≠ .reset ∧ ∃ t, stepWith ex (sent true) = .next t ∧ t.ses = .recv :=
  ⟨by decide, _, rfl, rfl⟩
theorem witness_ResetLeavesItsValues : (at1 (clientDoes .reset) sending).port.client = .reset := by decide
theorem witness_ResultStaysReadable :
    (at1 .quiet { ready with rValid := true }).ses = .idle ∧
      (at1 .quiet { ready with rValid := true }).rValid = true ∧
      (at1 .quiet { ready with rValid := true }).port.client ≠ .reset ∧
      ∀ c, (at1 .quiet { ready with rValid := true }).port.client ≠ .present c :=
  ⟨rfl, rfl, by decide, fun _ h => by cases h⟩

/-- The state of `sent true` meets the invariant, and the step after it awaits a response. -/
theorem witness_BroadcastIsNeverAwaited :
    ex.wellFormed = true ∧ (sent true).Inv ex ∧ ∃ t, stepWith ex (sent true) = .next t ∧ t.ses = .recv := by
  refine ⟨by decide +kernel, ⟨?_, fun _ => ?_, fun h => absurd h (by decide)⟩, _, rfl, rfl⟩
  · exact
      { paramBound := by decide, payloadBound := by decide, txBound := by decide, txIndex := by decide
        rxBound := by decide, timerBound := by decide, noCommErrorSuccess := by decide +kernel
        failureEmpty := by decide }
  · exact
      { linkOpen := rfl, noResult := rfl, legalId := by decide, legalOpcode := rfl
        expectUnicast := by decide, request := rfl }

/-- Two states that differ in a command register only, in `IDLE`. -/
theorem witness_StaleRegistersAreNeverRead :
    AgreeOnRead ready { ready with cId := 7 } ∧ ready ≠ { ready with cId := 7 } :=
  ⟨⟨rfl, rfl, rfl, rfl, rfl, rfl, rfl, fun h => absurd rfl h, fun h => absurd h (by decide)⟩, by decide +kernel⟩

/-! ### Client sequences -/

/-- A command that ended with `r`, no cancellation seen before it. -/
def sees (r : TypedResult) : ClientTurn := { result := r, transaction := none, now := 0, cancel := false }

/-- IDs 1, 3 and 7 answer (S7, P1). -/
def answers (id : Nat) : Bool := id == 1 || id == 3 || id == 7

theorem witness_ScanFindsExactlyThePresent :
    0 ≤ 7 ∧ 7 ≤ 255 ∧
      ((List.range' 0 8).map (fun id => sees (.present (answers id)))).map (fun v => v.result) =
        (List.range' 0 (7 + 1 - 0)).map (fun id => .present (answers id)) := by decide +kernel
/-- S7. -/
theorem test_scan :
    (scanProgram.run (scanStart 0 7) ((List.range' 0 8).map (fun id => sees (.present (answers id))))).found =
      [1, 3, 7] := by decide +kernel

/-- Client parameters over `REGTAB_EX`; the load register and the last five are the test's own. -/
def exClient : ClientParams :=
  { aAcc := 0x29, aSpeed := 0x2E, aGoal := 0x2A, aMoving := 0x42, aMode := 0x21, aPos := 0x38, aLoad := 0x3C
    aOfs := 0x1F, aTorque := 0x28, pollInterval := 5, moveMaxPolls := 3, moveDeadline := 100, calDeadline := 100
    plateauPolls := 1, plateauTol := 0, calSpeed := 500, calMask := exMask, firstForward := true
    centring := .positionCorrection, centringValue := fun mid => mid - 2048 }

/-- The command of P2. -/
def exMove : MoveRequest := { id := 1, position := 2048, speed := 1000, acceleration := 50, wait := true }

/-- P2: `Reached` after two polls. -/
theorem test_move :
    (moveProgram exClient exMove).run .stageAcceleration
        [sees .ok, sees .ok, sees .ok, sees (.value 1), sees (.value 0)] = .ended .reached ∧
      (moveProgram exClient exMove).issued .stageAcceleration [sees .ok, sees (.commError .timeout), sees .ok] =
        [.writeReg 1 0x29 50 none, .writeReg 1 0x2E 1000 none] := by decide +kernel
/-- The clauses at two, three and four issued commands. -/
theorem witness_MoveStagesBeforePosition :
    ((moveProgram exClient exMove).issued .stageAcceleration [sees .ok, sees (.commError .timeout)]).length = 2 ∧
      ((moveProgram exClient exMove).issued .stageAcceleration
        [sees .ok, sees .ok, sees (.commError .timeout)]).length = 3 ∧
      ((moveProgram exClient exMove).issued .stageAcceleration
        [sees .ok, sees .ok, sees .ok, sees (.value 1)]).length = 4 := by decide +kernel
theorem witness_MoveEndsReachedOrAtItsCap :
    exMove.wait = true ∧ [sees .ok, sees .ok, sees .ok].length = 3 ∧
      (∀ t ∈ [sees .ok, sees .ok, sees .ok], t.result = .ok) ∧
      (∀ t ∈ [sees (.value 1), sees (.value 1)],
        t.cancel = false ∧ t.now < exClient.moveDeadline ∧ ∃ x : Rat, x ≠ 0 ∧ t.result = .value x) ∧
      [sees (.value 1), sees (.value 1)].length + 1 = exClient.moveMaxPolls ∧ (sees (.value 1)).cancel = false ∧
      (∃ x : Rat, x ≠ 0 ∧ (sees (.value 1)).result = .value x) ∧
      [sees (.value 1), sees (.value 1)].length < exClient.moveMaxPolls ∧ (sees (.value 0)).result = .value 0 ∧
      { sees .raw with cancel := true }.cancel = true := by
  refine ⟨rfl, rfl, by decide +kernel, fun t ht => ?_, rfl, rfl, ⟨1, by norm_num, rfl⟩, by decide, rfl, rfl⟩
  simp only [List.mem_cons, List.not_mem_nil, or_false, or_self] at ht
  subst ht
  exact ⟨rfl, by decide, 1, by norm_num, rfl⟩

/-- A calibration with stalls at 4000 and 100 (S10). -/
def calTurns : List ClientTurn :=
  [sees .ok, sees .ok, sees (.value 4000), sees (.value 0), sees .ok, sees .ok, sees (.value 100), sees (.value 0),
    sees .ok]

/-- S10, and the centring write of its first reading. -/
theorem witness_CalibrationExtremesAreOrdered :
    (calProgram exClient 1).run (.rotating none .writeMode) calTurns = .ended (.extremes 100 4000) ∧
      ((calProgram exClient 1).issued (.rotating none .writeMode) calTurns)[8]? = some (.writeReg 1 0x1F 2 none) := by
  decide +kernel
theorem witness_CalibrationCommandsAreItsOwn :
    ((calProgram exClient 1).issued (.rotating none .writeMode) calTurns).length = 9 := by decide +kernel

/-- A driven scan whose first `PING` is in flight. -/
def scanDriver : Driver ScanState := { client := scanStart 0 7, awaiting := true, wake := 0, block := sending }

theorem witness_DriverAwaitsItsResult : scanDriver.awaiting = true ∧ scanDriver.block.rValid = false := by decide

/-- A driven move between two polls: asleep until time 5. -/
def moveDriver : Driver MoveState := { client := .polling 0, awaiting := false, wake := 5, block := ready }

/-- The same at the end of a poll that reads moving. -/
def moveDriverRead : Driver MoveState :=
  { moveDriver with awaiting := true, block := { ready with rValid := true, tResult := .value 1 } }

theorem witness_MovePollsSleepAndLookForCancellation :
    moveDriver.client = .polling 0 ∧ moveDriver.awaiting = false ∧ 4 < moveDriver.wake ∧ moveDriver.wake ≤ 5 ∧
      moveDriver.block.ses = .idle ∧ moveDriver.block.linkOpen = true := by decide +kernel
theorem witness_MovePollsSleepAndLookForCancellation_read :
    moveDriverRead.client = .polling 0 ∧ moveDriverRead.awaiting = true ∧ moveDriverRead.block.rValid = true ∧
      moveDriverRead.block.tResult = .value 1 ∧ (1 : Rat) ≠ 0 ∧ 0 + 1 ≠ exClient.moveMaxPolls ∧
      0 < exClient.moveDeadline := by decide +kernel
theorem witness_MovePollsSleepAndLookForCancellation_present :
    ∃ t, serveInputs ex { PortInputs.quiet with client := .present (.readReg exMove.id exClient.aMoving none) }
      moveDriver.block = .next t := ⟨_, rfl⟩

end Sys2Proof.Tests
end

section
/-! The Packet Codec (`40_packet_codec.md`, rules R112 to R121): the layout of an encoded frame, `Decode` of it, and the
four verifications of `Decode` in their order. -/

namespace Sys2Proof

open Machine

/-! ## The positions of an encoded frame -/

theorem take_five_encodeRequest (id op : Byte) (ps : List Byte) :
    (encodeRequest id op ps).take 5 = [Config.sync0, Config.sync1, id, lengthField ps, op] := by
  simp [encodeRequest_eq]

/-- From byte 5 on stand the parameters, then the checksum (rule R80). -/
theorem byteAt_encodeRequest_add_five (id op : Byte) (ps : List Byte) (k : Nat) :
    byteAt (encodeRequest id op ps) (k + 5) = byteAt (ps ++ [checksum (id :: lengthField ps :: op :: ps)]) k := by
  simp [encodeRequest_eq]

theorem byteAt_encodeRequest_param (id op : Byte) (ps : List Byte) (k : Nat) (hk : k < ps.length) :
    byteAt (encodeRequest id op ps) (5 + k) = byteAt ps k := by
  rw [Nat.add_comm, byteAt_encodeRequest_add_five, byteAt_append_left _ _ _ hk]

theorem byteAt_encodeRequest_checksum (id op : Byte) (ps : List Byte) :
    byteAt (encodeRequest id op ps) (ps.length + 5) = checksum (id :: lengthField ps :: op :: ps) := by
  rw [byteAt_encodeRequest_add_five, byteAt_append_length]

/-- Settles O1, position by position: the first five bytes, the parameters, the checksum. -/
theorem encodedFrameHasRequestLayout : Obligations.EncodedFrameHasRequestLayout := by
  intro id op ps hps
  refine ⟨length_encodeRequest id op ps, take_five_encodeRequest id op ps,
    byteAt_encodeRequest_param id op ps, ?_⟩
  rw [byteAt_encodeRequest_checksum, checksum_toNat]
  simp only [sumBytes_cons, toNat_lengthField ps hps, Nat.add_assoc]

/-- Settles O2: an encoded frame is five bytes, a body and a last byte that pass every verification. -/
theorem decodeInvertsEncode : Obligations.DecodeInvertsEncode := by
  intro eb id op ps hps
  rw [encodeRequest_eq, decodeResponse_frame]
  simp [toNat_lengthField ps hps]

/-! ## The verifications in terms of the bytes -/

/-- Verification 1 (rule R117). -/
theorem hasSync_iff (raw : List Byte) : hasSync raw = true ↔ raw.take 2 = [0xFF, 0xFF] := by
  match raw with
  | [] | [_] => simp [hasSync]
  | a :: b :: rest => simp [hasSync, Config.sync0, Config.sync1]

/-- Verification 2 (rule R118). -/
theorem lengthAgrees_iff (raw : List Byte) :
    lengthAgrees raw = true ↔
      4 ≤ raw.length ∧ 2 ≤ (byteAt raw 3).toNat ∧ raw.length - 4 = (byteAt raw 3).toNat := by
  simp [lengthAgrees, and_assoc]

/-- A byte is the checksum of the bytes before it exactly when with it they sum to 255 modulo 256 (rule R113). -/
theorem checksum_eq_byte_iff (bs : List Byte) (f : Byte) :
    checksum bs = f ↔ sumBytes (bs ++ [f]) % 256 = 255 := by
  have hf : f.toNat < 256 := f.isLt
  rw [← BitVec.toNat_inj, checksum_toNat, sumBytes_append, sumBytes_cons, sumBytes_nil]
  omega

/-- Verification 4 (rule R120), on what verification 2 lets through. -/
theorem checksumAgrees_iff (raw : List Byte) (hlen : lengthAgrees raw = true) :
    checksumAgrees raw = true ↔ sumBytes (raw.drop 2) % 256 = 255 := by
  obtain ⟨a, b, c, d, e, f, body, rfl⟩ := frame_of_lengthAgrees raw hlen
  rw [checksumAgrees_frame, beq_iff_eq, checksum_eq_byte_iff]
  rfl

/-! ## The answer of `Decode` at each verification -/

/-- Verification 1 fails (rule R117). -/
theorem decodeResponse_of_noSync (eb : ErrBit) (raw : List Byte) (id : Byte) (hsync : hasSync raw = false) :
    decodeResponse eb raw id = failResult .malformedLength := by
  simp [decodeResponse, hsync]

section Framed

variable {raw : List Byte} (hsync : hasSync raw = true) (hlen : lengthAgrees raw = true)
include hsync hlen

/-- Verification 3 fails (rule R119): whatever the checksum. -/
theorem decodeResponse_of_otherId (eb : ErrBit) {id : Byte} (hid : byteAt raw 2 ≠ id) :
    decodeResponse eb raw id = failResult .idMismatch := by
  simp [decodeResponse, hsync, hlen, hid]

/-- Verification 4 fails (rule R120). -/
theorem decodeResponse_of_badChecksum (eb : ErrBit) {id : Byte} (hid : byteAt raw 2 = id)
    (hsum : checksumAgrees raw = false) : decodeResponse eb raw id = failResult .checksumMismatch := by
  simp [decodeResponse, hsync, hlen, hid, hsum]

/-- Every verification passes (rule R121). -/
theorem decodeResponse_of_verified (eb : ErrBit) {id : Byte} (hid : byteAt raw 2 = id)
    (hsum : checksumAgrees raw = true) :
    decodeResponse eb raw id =
      { comm := .success, status := byteAt raw 4, flags := flagDecode eb (byteAt raw 4), payload := frameBody raw } := by
  simp [decodeResponse, hsync, hlen, hid, hsum]

end Framed

/-- Settles O4: one answer of `Decode` per verification, each verification read as a condition on the bytes. -/
theorem decodeVerifiesInOrder : Obligations.DecodeVerifiesInOrder := by
  intro eb raw id
  refine ⟨fun hsync => ?noSync, fun hlen => ?badLength, fun hsync h4 h2 hcount => ?framed⟩
  case noSync =>
    rw [Ne, ← hasSync_iff, Bool.not_eq_true] at hsync
    rw [decodeResponse_of_noSync eb raw id hsync, failResult]
  case badLength =>
    have hfails : lengthAgrees raw = false := by
      rw [← Bool.not_eq_true, lengthAgrees_iff]
      omega
    rw [decodeResponse_of_length eb raw id hfails, failResult]
  case framed =>
    have hs : hasSync raw = true := (hasSync_iff raw).mpr hsync
    have hl : lengthAgrees raw = true := (lengthAgrees_iff raw).mpr ⟨h4, h2, hcount⟩
    refine ⟨fun hid => ?_, fun hid hsum => ?_, fun hid hsum => ?_⟩
    · rw [decodeResponse_of_otherId hs hl eb hid, failResult]
    · rw [Ne, ← checksumAgrees_iff raw hl, Bool.not_eq_true] at hsum
      rw [decodeResponse_of_badChecksum hs hl eb hid hsum, failResult]
    · rw [decodeResponse_of_verified hs hl eb hid ((checksumAgrees_iff raw hl).mpr hsum)]

end Sys2Proof
end

section
/-! The Transport Session (`41_transport_session.md`, rules R140 and R141): which port inputs a step reads. -/

namespace Sys2Proof

open Machine

/-- `SEND` reads one port input, `tx_ready` (rules R132 to R134). -/
theorem sendStep_congr {p q : PortInputs} (htx : p.txReady = q.txReady) (s : State) :
    sendStep p s = sendStep q s := by
  rw [sendStep, sendStep, htx]

/-- Outside `RECV` the session reads neither `rx` nor `tick`: nothing in `IDLE`, `tx_ready` in `SEND`. -/
theorem sessionStep_congr_of_ne_recv (cfg : Params) {p q : PortInputs} {s : State} (hses : s.ses ≠ .recv)
    (htx : p.txReady = q.txReady) : sessionStep cfg p s = sessionStep cfg q s := by
  cases h : s.ses with
  | idle => simp only [sessionStep, h]
  | send => simp only [sessionStep, h, sendStep_congr htx]
  | recv => exact absurd h hses

/-- Beyond the session's own step, the block reads of its ports the client's act and whether the transport can open
(rules R131, R147, R273). -/
theorem serveInputs_congr (cfg : Params) {p q : PortInputs} {s : State} (hclient : p.client = q.client)
    (hopen : p.canOpen = q.canOpen) (hsession : sessionStep cfg p s = sessionStep cfg q s) :
    serveInputs cfg p s = serveInputs cfg q s := by
  simp only [serveInputs, hclient, hopen, hsession]

/-- Settles O25: the two inputs differ in `rx` and `tick` only, which outside `RECV` neither the client's act nor the
session reads. -/
theorem bytesOutsideReceptionAreDropped : Obligations.BytesOutsideReceptionAreDropped := by
  intro cfg p s rx tick hses
  have hsession : sessionStep cfg { p with rx := rx, tick := tick } s = sessionStep cfg p s :=
    sessionStep_congr_of_ne_recv cfg hses rfl
  exact serveInputs_congr cfg rfl rfl hsession

end Sys2Proof
end

section
/-! Register Access (`42_register_access.md`, rule R164): the sign-magnitude reading of a raw field. -/

namespace Sys2Proof

open Machine

/-- Rule R164, the direction bit clear: every bit is magnitude. -/
theorem smDecode_of_testBit_eq_false {m b : Nat} (hclear : m.testBit b = false) : smDecode m b = (m : Int) := by
  simp [smDecode, hclear]

/-- Rule R164, the direction bit set: a raw value with bit `b` set is `m + 2 ^ b` for the `m` of its other bits, and
adding `2 ^ b` where bit `b` is clear carries into no other bit. -/
theorem smDecode_add_two_pow {m b : Nat} (hclear : m.testBit b = false) : smDecode (m + 2 ^ b) b = -(m : Int) := by
  have hset : (m + 2 ^ b).testBit b = true := by
    rw [Nat.add_comm, Nat.testBit_two_pow_add_eq, hclear, Bool.not_false]
  rw [smDecode, if_pos hset, Nat.add_sub_cancel]

/-- "Negative zero", the direction bit alone, is the magnitude 0 with the direction bit added. -/
theorem smDecode_two_pow (b : Nat) : smDecode (2 ^ b) b = 0 := by
  simpa using smDecode_add_two_pow (Nat.zero_testBit b)

/-- Settles O41, one lemma for each of the direction bit clear, the direction bit set, and "negative zero". -/
theorem directionBitIsSignMagnitude : Obligations.DirectionBitIsSignMagnitude :=
  fun _ b hclear => ⟨smDecode_of_testBit_eq_false hclear, smDecode_add_two_pow hclear, smDecode_two_pow b⟩

end Sys2Proof
end

section
/-! The Packet Codec and the encoding (`30_encoding.md`, `40_packet_codec.md`): which byte sequences are frames, what
the two decoders read of a frame, and what one changed byte does to it. -/

namespace Sys2Proof

open Machine

/-! ## The fields of an encoded frame -/

@[simp] theorem byteAt_encodeRequest_id (id op : Byte) (ps : List Byte) : byteAt (encodeRequest id op ps) 2 = id := rfl

@[simp] theorem byteAt_encodeRequest_lengthField (id op : Byte) (ps : List Byte) :
    byteAt (encodeRequest id op ps) 3 = lengthField ps := rfl

@[simp] theorem byteAt_encodeRequest_opcode (id op : Byte) (ps : List Byte) :
    byteAt (encodeRequest id op ps) 4 = op := rfl

@[simp] theorem frameBody_encodeRequest (id op : Byte) (ps : List Byte) : frameBody (encodeRequest id op ps) = ps := by
  rw [encodeRequest_eq, frameBody_frame]

/-- The three fields are read back by position (rule R115). -/
theorem encodeRequest_inj {id id' op op' : Byte} {ps ps' : List Byte}
    (h : encodeRequest id op ps = encodeRequest id' op' ps') : id = id' ∧ op = op' ∧ ps = ps' :=
  ⟨congrArg (byteAt · 2) h, congrArg (byteAt · 4) h, by simpa using congrArg frameBody h⟩

/-- Settles O7: an encoded frame shows each of its fields. -/
theorem encodeIsInjective : Obligations.EncodeIsInjective := fun _ _ _ _ _ _ => encodeRequest_inj

/-! ## Frames are what passes the verifications -/

/-- What passes the sync, length and checksum verifications: the shape of every accepted frame. -/
structure Verified (raw : List Byte) : Prop where
  sync : hasSync raw = true
  length : lengthAgrees raw = true
  checksum : checksumAgrees raw = true

theorem verified_encodeRequest (id op : Byte) {ps : List Byte} (hps : ps.length ≤ 253) :
    Verified (encodeRequest id op ps) := by
  constructor
  · rw [encodeRequest_eq, hasSync_frame]; simp
  · rw [encodeRequest_eq, lengthAgrees_frame, toNat_lengthField ps hps]; simp
  · rw [encodeRequest_eq, checksumAgrees_frame]; simp

/-- A verified byte sequence is the frame of the fields it shows: its length byte counts the body (rule R82), so the
body has at most 253 bytes. -/
theorem Verified.eq_encodeRequest {raw : List Byte} (h : Verified raw) :
    raw = encodeRequest (byteAt raw 2) (byteAt raw 4) (frameBody raw) ∧ (frameBody raw).length ≤ 253 := by
  obtain ⟨hsync, hlen, hsum⟩ := h
  obtain ⟨a, b, c, d, e, f, body, rfl⟩ := frame_of_lengthAgrees raw hlen
  simp only [hasSync_frame, Bool.and_eq_true, beq_iff_eq] at hsync
  simp only [lengthAgrees_frame, decide_eq_true_eq] at hlen
  simp only [checksumAgrees_frame, beq_iff_eq] at hsum
  obtain ⟨rfl, rfl⟩ := hsync
  have hd : lengthField body = d := by rw [lengthField, hlen, BitVec.ofNat_toNat, BitVec.setWidth_eq]
  have hbound : d.toNat < 256 := d.isLt
  rw [frameBody_frame]
  refine ⟨?_, by omega⟩
  rw [encodeRequest_eq, hd]
  simp only [byteAt_cons_succ, byteAt_cons_zero, hsum]

/-! ## The answer of `Decode` -/

/-- Everything `Decode` can answer (rules R116 to R122). -/
theorem decodeResponse_cases (eb : ErrBit) (raw : List Byte) (id : Byte) :
    (∃ c : CommResult, c ≠ .success ∧ c ≠ .timeout ∧ decodeResponse eb raw id = failResult c) ∨
    (Verified raw ∧ byteAt raw 2 = id ∧ decodeResponse eb raw id =
      { comm := .success, status := byteAt raw 4, flags := flagDecode eb (byteAt raw 4)
        payload := frameBody raw }) := by
  cases hsync : hasSync raw with
  | false => exact .inl ⟨.malformedLength, by decide, by decide, decodeResponse_of_noSync eb raw id hsync⟩
  | true =>
    cases hlen : lengthAgrees raw with
    | false => exact .inl ⟨.malformedLength, by decide, by decide, decodeResponse_of_length eb raw id hlen⟩
    | true =>
      by_cases hid : byteAt raw 2 = id
      · cases hsum : checksumAgrees raw with
        | false =>
          exact .inl ⟨.checksumMismatch, by decide, by decide, decodeResponse_of_badChecksum hsync hlen eb hid hsum⟩
        | true => exact .inr ⟨⟨hsync, hlen, hsum⟩, hid, decodeResponse_of_verified hsync hlen eb hid hsum⟩
      · exact .inl ⟨.idMismatch, by decide, by decide, decodeResponse_of_otherId hsync hlen eb hid⟩

/-- Settles O3: `Success` is the answer of the last case alone, and what is verified is a frame. -/
theorem decodeSucceedsExactlyOnFrames : Obligations.DecodeSucceedsExactlyOnFrames := by
  intro eb raw id
  constructor
  · intro hsuccess
    obtain ⟨c, hc, -, h⟩ | ⟨hv, rfl, -⟩ := decodeResponse_cases eb raw id
    · rw [h] at hsuccess
      exact absurd hsuccess hc
    · obtain ⟨hraw, hlen⟩ := hv.eq_encodeRequest
      exact ⟨byteAt raw 4, frameBody raw, hlen, hraw⟩
  · rintro ⟨status, payload, hlen, rfl⟩
    rw [decodeInvertsEncode eb id status payload hlen]

/-- Settles O5: every failure is `failResult` of a result that is not `Timeout`. -/
theorem decodeFailuresAreEmpty : Obligations.DecodeFailuresAreEmpty := by
  intro eb raw id
  obtain ⟨c, -, htimeout, h⟩ | ⟨-, -, h⟩ := decodeResponse_cases eb raw id
  · rw [h]
    exact ⟨htimeout, fun _ => ⟨rfl, rfl, rfl⟩⟩
  · rw [h]
    exact ⟨by simp, fun hne => absurd rfl hne⟩

/-! ## One changed byte -/

theorem byteAt_set_self {raw : List Byte} {k : Nat} (hk : k < raw.length) (b : Byte) : byteAt (raw.set k b) k = b := by
  simp [byteAt, hk]

theorem byteAt_set_of_ne (raw : List Byte) {k j : Nat} (h : k ≠ j) (b : Byte) :
    byteAt (raw.set k b) j = byteAt raw j := by
  simp [byteAt, List.getElem?_set_ne h]

theorem byteAt_drop (raw : List Byte) (n k : Nat) : byteAt (raw.drop n) k = byteAt raw (n + k) := by
  simp [byteAt]

theorem sumBytes_set (raw : List Byte) (k : Nat) (b : Byte) (hk : k < raw.length) :
    sumBytes (raw.set k b) + (byteAt raw k).toNat = sumBytes raw + b.toNat := by
  induction raw generalizing k with
  | nil => simp at hk
  | cons a raw ih =>
    cases k with
    | zero => simp; omega
    | succ k =>
      have := ih k (by simpa using hk)
      simp only [List.set_cons_succ, sumBytes_cons, byteAt_cons_succ]
      omega

/-- Verification 1 reads the count and the first two bytes, verification 2 the count and the fourth. -/
theorem hasSync_congr {raw raw' : List Byte} (hlen : raw.length = raw'.length) (h0 : byteAt raw 0 = byteAt raw' 0)
    (h1 : byteAt raw 1 = byteAt raw' 1) : hasSync raw = hasSync raw' := by
  rw [hasSync, hasSync, hlen, h0, h1]

theorem lengthAgrees_congr {raw raw' : List Byte} (hlen : raw.length = raw'.length)
    (h3 : byteAt raw 3 = byteAt raw' 3) : lengthAgrees raw = lengthAgrees raw' := by
  rw [lengthAgrees, lengthAgrees, hlen, h3]

section Changed

variable {raw : List Byte} (hv : Verified raw) {k : Nat} {b : Byte} (hb : b ≠ byteAt raw k)
include hv hb

/-- A sync byte changed. -/
theorem decodeResponse_set_sync (hk : k = 0 ∨ k = 1) (eb : ErrBit) (id : Byte) :
    decodeResponse eb (raw.set k b) id = failResult .malformedLength := by
  refine decodeResponse_of_noSync eb _ id ?_
  obtain ⟨⟨h2, h0⟩, h1⟩ : (2 ≤ raw.length ∧ byteAt raw 0 = Config.sync0) ∧ byteAt raw 1 = Config.sync1 := by
    simpa [hasSync] using hv.sync
  obtain rfl | rfl := hk
  · simp [hasSync, byteAt_set_self (show 0 < raw.length by omega), ← h0, hb]
  · simp [hasSync, byteAt_set_self (show 1 < raw.length by omega), ← h1, hb]

/-- The length byte changed. -/
theorem decodeResponse_set_length (hk : k = 3) (eb : ErrBit) (id : Byte) :
    decodeResponse eb (raw.set k b) id = failResult .malformedLength := by
  subst hk
  obtain ⟨h4, -, hcount⟩ := (lengthAgrees_iff raw).1 hv.length
  have hb' : b.toNat ≠ (byteAt raw 3).toNat := fun h => hb (BitVec.eq_of_toNat_eq h)
  refine decodeResponse_of_length eb _ id (Bool.eq_false_iff.2 fun h => ?_)
  obtain ⟨-, -, hcount'⟩ := (lengthAgrees_iff _).1 h
  rw [byteAt_set_self (by omega), List.length_set] at hcount'
  omega

/-- The ID byte changed: the frame still passes the first two verifications. -/
theorem decodeResponse_set_id (hk : k = 2) (eb : ErrBit) :
    decodeResponse eb (raw.set k b) (byteAt raw 2) = failResult .idMismatch := by
  subst hk
  obtain ⟨h4, -, -⟩ := (lengthAgrees_iff raw).1 hv.length
  have hsync : hasSync (raw.set 2 b) = true := by
    rw [← hv.sync]
    exact hasSync_congr (by simp) (byteAt_set_of_ne _ (by decide) _) (byteAt_set_of_ne _ (by decide) _)
  have hlen : lengthAgrees (raw.set 2 b) = true := by
    rw [← hv.length]
    exact lengthAgrees_congr (by simp) (byteAt_set_of_ne _ (by decide) _)
  exact decodeResponse_of_otherId hsync hlen eb (by rwa [byteAt_set_self (by omega)])

/-- A byte from the instruction byte to the checksum changed: the sum moves by less than 256. -/
theorem decodeResponse_set_checksummed (h4 : 4 ≤ k) (hk : k < raw.length) (eb : ErrBit) :
    decodeResponse eb (raw.set k b) (byteAt raw 2) = failResult .checksumMismatch := by
  have hsync : hasSync (raw.set k b) = true := by
    rw [← hv.sync]
    exact hasSync_congr (by simp) (byteAt_set_of_ne _ (by omega) _) (byteAt_set_of_ne _ (by omega) _)
  have hlen : lengthAgrees (raw.set k b) = true := by
    rw [← hv.length]
    exact lengthAgrees_congr (by simp) (byteAt_set_of_ne _ (by omega) _)
  refine decodeResponse_of_badChecksum hsync hlen eb (byteAt_set_of_ne _ (by omega) _) (Bool.eq_false_iff.2 fun h => ?_)
  have hold := (checksumAgrees_iff raw hv.length).1 hv.checksum
  have hnew := (checksumAgrees_iff _ hlen).1 h
  rw [List.drop_set, if_neg (by omega)] at hnew
  have hsum := sumBytes_set (raw.drop 2) (k - 2) b (by simp; omega)
  rw [byteAt_drop, Nat.add_sub_cancel' (by omega : 2 ≤ k)] at hsum
  have hb' : b.toNat ≠ (byteAt raw k).toNat := fun h => hb (BitVec.eq_of_toNat_eq h)
  have hlt : b.toNat < 256 := b.isLt
  have hlt' : (byteAt raw k).toNat < 256 := (byteAt raw k).isLt
  omega

end Changed

/-- Settles O6, index by index; and `PING` with its opcode raised by one and its checksum lowered by one is `READ`. -/
theorem singleByteChangeIsDetected : Obligations.SingleByteChangeIsDetected := by
  refine ⟨fun eb id op b ps k hps hk hb => ⟨fun hk' => ?_, fun hk' => ?_, fun hk' => ?_⟩, ?_⟩
  · have hv := verified_encodeRequest id op hps
    obtain h0 | h1 | h3 := hk'
    · rw [decodeResponse_set_sync hv hb (.inl h0), failResult]
    · rw [decodeResponse_set_sync hv hb (.inr h1), failResult]
    · rw [decodeResponse_set_length hv hb h3, failResult]
  · have h := decodeResponse_set_id (verified_encodeRequest id op hps) hb hk' eb
    rw [byteAt_encodeRequest_id] at h
    rw [h, failResult]
  · have h := decodeResponse_set_checksummed (verified_encodeRequest id op hps) hb hk' (by simpa using hk) eb
    rw [byteAt_encodeRequest_id] at h
    rw [h, failResult]
  · refine ⟨1, 0x01, 0x02, 0xFA, [], 4, 5, by decide, by decide, by decide, by decide, by decide, fun eb => ?_⟩
    have hframe : ((encodeRequest 1 0x01 []).set 4 0x02).set 5 0xFA = encodeRequest 1 0x02 [] := by decide
    rw [hframe, decodeInvertsEncode eb 1 0x02 [] (by decide)]

/-! ## The status byte -/

/-- The check at construction does not touch `ERRBIT`. -/
theorem params_errBit : params.errBit = errBitListing := by
  simp only [params, constructParams]
  split <;> rfl

/-- Bits 6 and 7 of the status byte are under no flag (rule R92). -/
theorem flagDecode_eq_noFlags_iff (status : Byte) :
    flagDecode errBitListing status = noFlags ↔ status &&& 0x3F = 0 := by
  revert status
  decide +kernel

/-- Settles O8: the first six equations are the definition's, the status is rule R124's. -/
theorem statusBitsAreTheFlags : Obligations.StatusBitsAreTheFlags := by
  refine ⟨params_errBit, fun status => ⟨⟨rfl, rfl, rfl, rfl, rfl, rfl⟩, flagDecode_eq_noFlags_iff status, ?_⟩⟩
  intro id payload hlen
  rw [decodeInvertsEncode _ id status payload hlen]

/-! ## Decoding instructions -/

theorem operandsWellFormed_iff (id : Byte) (ps : List Byte) :
    operandsWellFormed id ps = true ↔ id ≠ Config.illegalId ∧ ps.length ≤ 253 := by
  simp only [operandsWellFormed, Bool.and_eq_true, bne_iff_ne, decide_eq_true_eq]
  exact Iff.rfl

/-- The fields of an instruction decode to it (rule R84). -/
theorem decodeCommand_fields (i : Instr) : decodeCommand i.id i.opcode i.params i.resp = some i :=
  match i with
  | .ping .. => Laws.CommandRoundTrip.ping ..
  | .read .. => Laws.CommandRoundTrip.read ..
  | .write .. => Laws.CommandRoundTrip.write ..
  | .regWrite .. => Laws.CommandRoundTrip.regWrite ..
  | .action .. => Laws.CommandRoundTrip.action ..
  | .reset .. => Laws.CommandRoundTrip.reset ..
  | .syncWrite .. => Laws.CommandRoundTrip.syncWrite ..

/-- The frame decoder answers an instruction exactly on a verified frame of a legal ID and opcode. -/
theorem decodeFrame_ok_iff (resp : Bool) (raw : List Byte) (i : Instr) :
    decodeFrame resp raw = .ok i ↔
      Verified raw ∧ byteAt raw 2 ≠ Config.illegalId ∧
        decodeCommand (byteAt raw 2) (byteAt raw 4) (frameBody raw) resp = some i := by
  constructor
  · intro h
    unfold decodeFrame at h
    split at h
    · cases h
    · split at h
      · cases h
      · split at h
        · cases h
        · split at h
          · cases h
          · split at h
            · cases h
            · rename_i hsync hlen hsum hid _ j hj
              cases h
              exact ⟨⟨by simpa using hsync, by simpa using hlen, by simpa using hsum⟩, hid, hj⟩
  · rintro ⟨⟨hsync, hlen, hsum⟩, hid, hi⟩
    simp [decodeFrame, hsync, hlen, hsum, hid, hi]

/-- Settles O9: the frame is verified, and its fields decode to the instruction. -/
theorem instrDecodesFromItsFrame : Obligations.InstrDecodesFromItsFrame := by
  intro i hwf
  rw [wellFormed_eq, operandsWellFormed_iff] at hwf
  obtain ⟨hid, hlen⟩ := hwf
  rw [decodeFrame_ok_iff, encode, byteAt_encodeRequest_id, byteAt_encodeRequest_opcode, frameBody_encodeRequest]
  exact ⟨verified_encodeRequest _ _ hlen, hid, decodeCommand_fields i⟩

/-- Settles O10: what is verified is the frame of its fields, and the decoded instruction has these fields. -/
theorem decodedFrameIsTheInstrsFrame : Obligations.DecodedFrameIsTheInstrsFrame := by
  intro resp raw i h
  obtain ⟨hv, hid, hi⟩ := (decodeFrame_ok_iff resp raw i).1 h
  obtain ⟨hraw, hlen⟩ := hv.eq_encodeRequest
  obtain ⟨eid, eop, eps, eresp⟩ := decodeCommand_some hi
  refine ⟨?_, eresp, ?_⟩
  · rw [wellFormed_eq, operandsWellFormed_iff, eid, eps]
    exact ⟨hid, hlen⟩
  · rw [encode, eid, eop, eps, ← hraw]

/-- Rule R85: the list of opcodes is closed. -/
theorem decodeCommand_eq_none_iff (id op : Byte) (ps : List Byte) (resp : Bool) :
    decodeCommand id op ps resp = none ↔ op ∉ ([0x01, 0x02, 0x03, 0x04, 0x05, 0x06, 0x83] : List Byte) := by
  constructor
  · intro hnone hmem
    simp only [List.mem_cons, List.not_mem_nil, or_false] at hmem
    obtain rfl | rfl | rfl | rfl | rfl | rfl | rfl := hmem <;> cases hnone
  · intro hop
    simp only [List.mem_cons, List.not_mem_nil, or_false, not_or] at hop
    obtain ⟨h1, h2, h3, h4, h5, h6, h7⟩ := hop
    exact (if_neg h1).trans <| (if_neg h2).trans <| (if_neg h3).trans <| (if_neg h4).trans <| (if_neg h5).trans <|
      (if_neg h6).trans <| if_neg h7

/-- Settles O11: the seven rows are those of the definition, and no other byte is in it. -/
theorem opcodeMapIsClosed : Obligations.OpcodeMapIsClosed := fun id op ps resp =>
  ⟨⟨rfl, rfl, rfl, rfl, rfl, rfl, rfl⟩, decodeCommand_eq_none_iff id op ps resp⟩

/-- Settles O12: each word is the frame of its instruction, so it decodes to it. -/
theorem specWordsDecode : Obligations.SpecWordsDecode :=
  ⟨instrDecodesFromItsFrame (.ping 1 [] true) rfl,
    instrDecodesFromItsFrame (.read 1 [0x38, 0x02] true) rfl,
    instrDecodesFromItsFrame (.write 1 [0x2A, 0x00, 0x08] true) rfl,
    instrDecodesFromItsFrame (.regWrite 1 [0x2A, 0x00, 0x08] true) rfl,
    instrDecodesFromItsFrame (.action 254 [] false) rfl,
    instrDecodesFromItsFrame (.reset 1 [] true) rfl,
    instrDecodesFromItsFrame (.syncWrite 254 [0x2A, 0x02, 0x01, 0x00, 0x08, 0x02, 0xFF, 0x07] false) rfl⟩

end Sys2Proof
end

section
/-! Register Access, the value codec (`42_register_access.md` rules R161 to R170, R176), and the parameters' table
(`10_state.md` rule R31). -/

namespace Sys2Proof

open Machine

/-! ## Splitting and assembling -/

theorem assemble_splitRaw (w : Width) {raw : Nat} (h : raw < 2 ^ (8 * w.bytes)) : assemble (splitRaw w raw) = raw := by
  cases w with
  | one =>
    have : raw < 256 := h
    simp only [splitRaw, assemble, BitVec.toNat_ofNat]
    omega
  | two =>
    have : raw < 65536 := h
    simp only [splitRaw, assemble, BitVec.toNat_ofNat]
    omega

/-! ## The raw field of an integer -/

theorem intToRaw_unsigned_some {w : Width} {q : Int} (h0 : 0 ≤ q) (hq : q < 2 ^ (8 * w.bytes)) :
    intToRaw .unsigned w q = some q.toNat := by
  have hlt : q.toNat < 2 ^ (8 * w.bytes) := by
    rw [← Int.ofNat_lt, Int.toNat_of_nonneg h0]
    exact_mod_cast hq
  simp [intToRaw, h0, hlt]

theorem intToRaw_unsigned_none {w : Width} {q : Int} (h : q < 0 ∨ 2 ^ (8 * w.bytes) ≤ q) :
    intToRaw .unsigned w q = none := by
  refine if_neg fun ⟨h0, hlt⟩ => ?_
  have hlt' : q < 2 ^ (8 * w.bytes) := by
    rw [← Int.toNat_of_nonneg h0]
    exact_mod_cast hlt
  omega

theorem intToRaw_signed_some {b : Nat} (w : Width) {q : Int} (h : q.natAbs < 2 ^ b) :
    intToRaw (.signedDirectionBit b) w q = some (q.natAbs + if q < 0 then 2 ^ b else 0) := if_pos h

theorem intToRaw_signed_none {b : Nat} (w : Width) {q : Int} (h : 2 ^ b ≤ q.natAbs) :
    intToRaw (.signedDirectionBit b) w q = none := if_neg (by omega)

/-- The raw field reads back as the integer it was made of (rules R163, R164, R168, R169). -/
theorem rawToInt_of_intToRaw {e : Encoding} {w : Width} {q : Int} {raw : Nat} (h : intToRaw e w q = some raw) :
    rawToInt e raw = q := by
  cases e with
  | unsigned =>
    simp only [intToRaw, Option.ite_none_right_eq_some, Option.some.injEq] at h
    obtain ⟨⟨h0, -⟩, rfl⟩ := h
    exact Int.toNat_of_nonneg h0
  | signedDirectionBit b =>
    simp only [intToRaw, Option.ite_none_right_eq_some, Option.some.injEq] at h
    obtain ⟨hlt, rfl⟩ := h
    have hclear : q.natAbs.testBit b = false := Nat.testBit_lt_two_pow hlt
    by_cases hq : q < 0
    · rw [if_pos hq, rawToInt, smDecode_add_two_pow hclear]
      omega
    · rw [if_neg hq, Nat.add_zero, rawToInt, smDecode_of_testBit_eq_false hclear]
      omega

/-- The raw field fits the register where the direction bit does (rule R31). -/
theorem intToRaw_lt {e : Encoding} {w : Width} {q : Int} {raw : Nat} (hfits : e.fits w = true)
    (h : intToRaw e w q = some raw) : raw < 2 ^ (8 * w.bytes) := by
  cases e with
  | unsigned =>
    simp only [intToRaw, Option.ite_none_right_eq_some, Option.some.injEq] at h
    obtain ⟨⟨-, hlt⟩, rfl⟩ := h
    exact hlt
  | signedDirectionBit b =>
    simp only [intToRaw, Option.ite_none_right_eq_some, Option.some.injEq] at h
    obtain ⟨hlt, rfl⟩ := h
    have hb : b + 1 ≤ 8 * w.bytes := by
      have : 0 < w.bytes := by cases w <;> decide
      simp only [Encoding.fits, decide_eq_true_eq] at hfits
      omega
    calc q.natAbs + (if q < 0 then 2 ^ b else 0)
        < 2 ^ b + 2 ^ b := by split <;> omega
      _ = 2 ^ (b + 1) := by rw [pow_succ, mul_two]
      _ ≤ 2 ^ (8 * w.bytes) := Nat.pow_le_pow_right (by decide) hb

/-! ## The tests of `EncodeValue` -/

theorem encodeValue_of_out_of_range {d : RegisterDescriptor} {v : Rat} (h : v < d.min ∨ d.max < v) :
    encodeValue d v = .error .outOfRange := if_pos h

section InRange

variable {d : RegisterDescriptor} {v : Rat} (hmin : d.min ≤ v) (hmax : v ≤ d.max) (hscale : 0 < d.scale)
include hmin hmax hscale

/-- The quotient has denominator 1 exactly where the value is an integer multiple of the scale (rule R167). -/
theorem encodeValue_of_no_multiple (h : ∀ q : Int, v ≠ q * d.scale) :
    encodeValue d v = .error .notRepresentable := by
  have hrange : ¬ (v < d.min ∨ d.max < v) := by simp [hmin, hmax]
  refine (if_neg hrange).trans (if_pos fun hden => h (v / d.scale).num ?_)
  rw [Rat.den_eq_one_iff _ |>.1 hden, div_mul_cancel₀ _ hscale.ne']

theorem encodeValue_of_multiple {q : Int} (h : v = q * d.scale) :
    encodeValue d v =
      (intToRaw d.encoding d.width q).elim (.error .notRepresentable) fun raw => .ok (splitRaw d.width raw) := by
  have hrange : ¬ (v < d.min ∨ d.max < v) := by simp [hmin, hmax]
  have hquot : v / d.scale = q := by rw [h, mul_div_cancel_right₀ _ hscale.ne']
  rw [encodeValue, if_neg hrange, hquot, Rat.den_intCast, if_neg (by simp), Rat.num_intCast]
  cases intToRaw d.encoding d.width q <;> rfl

theorem encodeValue_of_raw {q : Int} {raw : Nat} (h : v = q * d.scale)
    (hraw : intToRaw d.encoding d.width q = some raw) : encodeValue d v = .ok (splitRaw d.width raw) := by
  rw [encodeValue_of_multiple hmin hmax hscale h, hraw, Option.elim_some]

theorem encodeValue_of_no_raw {q : Int} (h : v = q * d.scale) (hraw : intToRaw d.encoding d.width q = none) :
    encodeValue d v = .error .notRepresentable := by
  rw [encodeValue_of_multiple hmin hmax hscale h, hraw, Option.elim_none]

end InRange

/-- Settles O42: range, integer multiple, then the field of the encoding. -/
theorem encodeValueFollowsItsTests : Obligations.EncodeValueFollowsItsTests := by
  intro d v hscale
  refine ⟨encodeValue_of_out_of_range, fun hmin hmax => encodeValue_of_no_multiple hmin hmax hscale,
    fun q hmin hmax hv => ⟨fun he => ⟨fun hq => ?_, fun hq => ?_⟩, fun b he => ⟨fun hq => ?_, fun hq => ?_⟩⟩⟩
  · exact encodeValue_of_raw hmin hmax hscale hv (by rw [he]; exact intToRaw_unsigned_some hq.1 hq.2)
  · exact encodeValue_of_no_raw hmin hmax hscale hv (by rw [he]; exact intToRaw_unsigned_none hq)
  · exact encodeValue_of_raw hmin hmax hscale hv (by rw [he]; exact intToRaw_signed_some _ hq)
  · exact encodeValue_of_no_raw hmin hmax hscale hv (by rw [he]; exact intToRaw_signed_none _ hq)

/-! ## Round trips -/

/-- What an accepted value is: in range, an integer multiple of the scale, whose raw field is sent. -/
theorem encodeValue_ok {d : RegisterDescriptor} {v : Rat} {data : List Byte} (hscale : 0 < d.scale)
    (h : encodeValue d v = .ok data) :
    ∃ (q : Int) (raw : Nat), v = q * d.scale ∧ intToRaw d.encoding d.width q = some raw ∧
      data = splitRaw d.width raw := by
  unfold encodeValue at h
  split at h
  · cases h
  · split at h
    · cases h
    · split at h
      · cases h
      · rename_i hden _ raw hraw
        cases h
        refine ⟨(v / d.scale).num, raw, ?_, hraw, rfl⟩
        rw [(Rat.den_eq_one_iff _).1 (not_not.1 hden), div_mul_cancel₀ _ hscale.ne']

theorem decodeValue_splitRaw {d : RegisterDescriptor} {q : Int} {raw : Nat} (hfits : d.encoding.fits d.width = true)
    (h : intToRaw d.encoding d.width q = some raw) : decodeValue d (splitRaw d.width raw) = q * d.scale := by
  rw [decodeValue, assemble_splitRaw _ (intToRaw_lt hfits h), rawToInt_of_intToRaw h]

theorem wellFormed_fits_scale {d : RegisterDescriptor} (h : d.wellFormed = true) :
    d.encoding.fits d.width = true ∧ 0 < d.scale := by
  simp only [RegisterDescriptor.wellFormed, Bool.and_eq_true, decide_eq_true_eq] at h
  obtain ⟨⟨⟨-, hfits⟩, hscale⟩, -⟩ := h
  exact ⟨hfits, hscale⟩

/-- Settles O39: the data are the split raw field of the quotient, and all three maps are inverted. -/
theorem encodedValueDecodesToItself : Obligations.EncodedValueDecodesToItself := by
  intro d v data hwf h
  obtain ⟨hfits, hscale⟩ := wellFormed_fits_scale hwf
  obtain ⟨q, raw, rfl, hraw, rfl⟩ := encodeValue_ok hscale h
  exact ⟨splitRaw_length .., decodeValue_splitRaw hfits hraw⟩

/-- Settles O40: with direction bit 11 in two bytes the field holds every `|v| < 2 ^ 11`. -/
theorem signedFieldRoundTrips : Obligations.SignedFieldRoundTrips := by
  intro d v he hw hs hmin hmax hlo hhi
  have hscale : 0 < d.scale := by rw [hs]; exact one_pos
  have hfits : d.encoding.fits d.width = true := by rw [he, hw]; rfl
  have hv : (v : Rat) = v * d.scale := by rw [hs, mul_one]
  have hraw : intToRaw d.encoding d.width v = some (v.natAbs + if v < 0 then 2 ^ 11 else 0) := by
    rw [he]
    exact intToRaw_signed_some _ (by omega)
  refine ⟨_, encodeValue_of_raw hmin hmax hscale hv hraw, ?_, ?_⟩
  · rw [decodeValue_splitRaw hfits hraw, ← hv]
  · rintro rfl
    rw [hw]
    rfl

/-! ## The table -/

/-- Where each address stands once, the lookup of a descriptor's address finds the descriptor. -/
theorem find?_address_of_distinct {table : List RegisterDescriptor} (h : addressesDistinct table = true)
    {d : RegisterDescriptor} (hd : d ∈ table) : table.find? (fun e => e.address == d.address) = some d := by
  induction table with
  | nil => simp at hd
  | cons e table ih =>
    simp only [addressesDistinct, Bool.and_eq_true, List.all_eq_true, bne_iff_ne] at h
    obtain ⟨hne, hdistinct⟩ := h
    obtain rfl | hmem := List.mem_cons.1 hd
    · simp
    · rw [List.find?_cons_of_neg (by simpa using (hne d hmem).symm), ih hdistinct hmem]

theorem wellFormed_params : params.wellFormed = true := by
  unfold params constructParams
  split
  · assumption
  · rfl

/-- Settles O43: the construction returns what it has tested, or the empty table. -/
theorem parametersAreWellFormed : Obligations.ParametersAreWellFormed := by
  refine ⟨fun p => ⟨fun h => ?_, fun h => ?_⟩, wellFormed_params, fun d hd => ?_⟩
  · exact if_neg (by simp [h])
  · exact if_pos h
  · have htable := wellFormed_params
    simp only [Params.wellFormed, tableWellFormed, Bool.and_eq_true, List.all_eq_true] at htable
    obtain ⟨⟨hall, hdistinct⟩, -⟩ := htable
    exact ⟨hall d hd, find?_address_of_distinct hdistinct hd⟩

end Sys2Proof
end

section
/-! The command port (`41_transport_session.md` rules R131, R147; `42_register_access.md` rules R171 to R175;
`43_instruction_dispatch.md` rules R190 to R200): what one step does with what the client presents. -/

namespace Sys2Proof

open Machine

/-! ## The step of a ready block -/

theorem cmdReady_popInputs {s : State} (hses : s.ses = .idle) (hlink : s.linkOpen = true) :
    (popInputs s).cmdReady = true := (cmdReady_iff _).2 ⟨hses, hlink⟩

/-- A command presented to a ready port is accepted at this step (rule R131). -/
theorem stepWith_present (cfg : Params) {s : State} {c : Command} (hses : s.ses = .idle) (hlink : s.linkOpen = true)
    (hclient : s.port.client = .present c) : stepWith cfg s = acceptCommand cfg c (popInputs s) := by
  simp only [stepWith, serveInputs, hclient, cmdReady_popInputs hses hlink, if_true]

theorem acceptCommand_exec_of_decode (cfg : Params) {id op : Byte} {ps : List Byte} {resp : Bool} {i : Instr}
    (h : decodeCommand id op ps resp = some i) (s : State) : acceptCommand cfg (.exec id op ps resp) s = exec i s := by
  simp only [acceptCommand, h]

theorem acceptCommand_exec_of_illegal (cfg : Params) {id op : Byte} {ps : List Byte} {resp : Bool}
    (h : decodeCommand id op ps resp = none) (s : State) :
    acceptCommand cfg (.exec id op ps resp) s = .next (raiseValidation .illegalOpcode s) := by
  simp only [acceptCommand, h]

/-- Settles O13, whose last state is `popInputs s` written out. -/
theorem stepRunsPresentedInstruction : Obligations.StepRunsPresentedInstruction := by
  intro s id op ps resp i hses hlink hclient hi
  rw [step, stepWith_present params hses hlink hclient, acceptCommand_exec_of_decode params hi]
  rfl

/-- An accepted table word is the opcode of an instruction without operands (log 11). -/
theorem decodeTableWord_some {w : Nat} {i : Instr} (h : decodeTableWord 8 w = some i) :
    w < 256 ∧ i.opcode = BitVec.ofNat 8 w ∧ decodeCommand 0 (BitVec.ofNat 8 w) [] false = some i := by
  unfold decodeTableWord at h
  split at h
  · rename_i hw
    split at h
    · rename_i j hj
      cases h
      obtain ⟨-, -, hi⟩ := (decodeFrame_ok_iff _ _ _).1 hj
      rw [byteAt_encodeRequest_id, byteAt_encodeRequest_opcode, frameBody_encodeRequest] at hi
      obtain ⟨-, hop, -⟩ := decodeCommand_some hi
      exact ⟨hw.2, hop, hi⟩
    · cases h
  · cases h

/-- Settles O14: the word placed is the command whose opcode is the word. -/
theorem tableWordRunsFirst : Obligations.TableWordRunsFirst := by
  intro w i h
  obtain ⟨hw, hop, hi⟩ := decodeTableWord_some h
  refine ⟨hop, ?_⟩
  have hclient : (State.reset.withFetchWord 8 w).port.client = .present (.exec 0 (BitVec.ofNat 8 w) [] false) := by
    have hmod : w % 2 ^ 8 = w := Nat.mod_eq_of_lt hw
    simp only [State.withFetchWord, State.port, List.headD_cons, presentInputs, tableCommand, hmod]
  rw [stepRunsPresentedInstruction _ _ _ _ _ i rfl rfl hclient hi]
  rfl

/-! ## The seven instructions -/

theorem effectiveExpect_eq (id : Byte) (resp : Bool) : effectiveExpect id resp = (resp && decide (id ≠ 254)) := by
  rw [effectiveExpect, bne, beq_eq_decide, decide_not]
  rfl

/-- Acceptance, with the expect flag of rule R199 named. -/
theorem startTransaction_eq (kind : CommandKind) (id op : Byte) (ps : List Byte) {resp expect : Bool}
    (h : effectiveExpect id resp = expect) (s : State) :
    startTransaction kind id op ps resp s =
      { s with
        cId := id, cOp := op, cParam := ps, cExpect := expect
        txb := encodeRequest id op ps, txI := 0, rxb := [], timer := 0
        rValid := false, rComm := .success, rFlags := noFlags
        tKind := kind, ses := .send } := by
  rw [← h]
  rfl

section Raw

variable {s : State} (hready : s.cmdReady = true)
include hready

theorem acceptRaw_of_wellFormed (op : Byte) {id : Byte} {ps : List Byte} (resp : Bool)
    (hwf : operandsWellFormed id ps = true) : acceptRaw op id ps resp s = startTransaction .raw id op ps resp s := by
  simp [acceptRaw, hready, (validateRaw_none_iff id ps).2 hwf]

theorem acceptRaw_of_invalid (op : Byte) {id : Byte} {ps : List Byte} (resp : Bool) {k : ValidationKind}
    (hk : validateRaw id ps = some k) : acceptRaw op id ps resp s = raiseValidation k s := by
  simp [acceptRaw, hready, hk]

end Raw

/-- Settles O15: every instruction is `acceptRaw` of its fields, and these are well formed. -/
theorem rawCommandIsAccepted : Obligations.RawCommandIsAccepted := by
  intro i s hses hlink hid hlen
  have hwf : operandsWellFormed i.id i.params = true := (operandsWellFormed_iff _ _).2 ⟨hid, hlen⟩
  rw [exec_eq, acceptRaw_of_wellFormed ((cmdReady_iff s).2 ⟨hses, hlink⟩) _ _ hwf,
    startTransaction_eq _ _ _ _ (effectiveExpect_eq _ _)]

/-- Settles O16: `acceptRaw` looks at the readiness of the port first. -/
theorem rawCommandWaitsUnlessReady : Obligations.RawCommandWaitsUnlessReady := by
  intro i s h
  have hready : s.cmdReady = false := by
    rw [← Bool.not_eq_true, cmdReady_iff]
    rintro ⟨hses, hlink⟩
    exact h.elim (absurd hses) (by simp [hlink])
  rw [exec_eq, acceptRaw, if_pos hready]

/-- Settles O17: check 2 of rule R191, then check 3. -/
theorem rawCommandFailsValidation : Obligations.RawCommandFailsValidation := by
  intro i s hses hlink
  have hready : s.cmdReady = true := (cmdReady_iff s).2 ⟨hses, hlink⟩
  refine ⟨fun hid => ?_, fun hid hlen => ?_⟩
  · have hk : validateRaw i.id i.params = some .invalidId := if_pos hid
    rw [exec_eq, acceptRaw_of_invalid hready _ _ hk, raiseValidation]
  · have hk : validateRaw i.id i.params = some .paramsTooLong := (if_neg hid).trans (if_pos hlen)
    rw [exec_eq, acceptRaw_of_invalid hready _ _ hk, raiseValidation]

/-- Settles O18: an opcode outside the seven decodes to no instruction. -/
theorem illegalOpcodeSendsNothing : Obligations.IllegalOpcodeSendsNothing := by
  intro s id op ps resp hses hlink hclient hop
  rw [step, stepWith_present params hses hlink hclient,
    acceptCommand_exec_of_illegal params ((decodeCommand_eq_none_iff id op ps resp).2 hop)]
  rfl

/-! ## `OPEN` and `CLOSE` -/

theorem sessionStep_of_idle (cfg : Params) (p : PortInputs) {s : State} (hses : s.ses = .idle) :
    sessionStep cfg p s = s := by
  simp only [sessionStep, hses]

/-- Settles O31: each act is served at the opposite value of the link, and in `IDLE` the session has no step of its
own. -/
theorem linkControlFollowsItsRule : Obligations.LinkControlFollowsItsRule := by
  intro cfg s baud hses
  have hidle : sessionStep cfg s.port (popInputs s) = popInputs s := sessionStep_of_idle _ _ hses
  refine ⟨fun hclient hlink => ?_, fun hclient hlink => ?_, fun hclient hlink => ?_, fun hclient hlink => ?_⟩
  · have hready : (popInputs s).openReady = true := (openReady_iff _).2 ⟨hses, hlink⟩
    simp only [stepWith, serveInputs, hclient, hready, if_true]
    rfl
  · have hready : (popInputs s).closeReady = true := (closeReady_iff _).2 ⟨hses, hlink⟩
    simp only [stepWith, serveInputs, hclient, hready, if_true]
    rfl
  · have hbusy : (popInputs s).openReady = false := by simp [State.openReady, hlink]
    simp only [stepWith, serveInputs, hclient, hbusy, hidle]
    rfl
  · have hbusy : (popInputs s).closeReady = false := by simp [State.closeReady, hlink]
    simp only [stepWith, serveInputs, hclient, hbusy, hidle]
    rfl

/-! ## The typed commands -/

theorem id_ne_254_of_le {id : Byte} (h : id.toNat ≤ 253) : id ≠ 254 := by
  rintro rfl
  exact absurd h (by decide)

/-- Only 255 lies above the broadcast ID (rule R51). -/
theorem broadcastId_lt_iff (id : Byte) : Config.broadcastId.toNat < id.toNat ↔ id = 255 := by
  have h254 : Config.broadcastId.toNat = 254 := rfl
  have h255 : (255 : Byte).toNat = 255 := rfl
  rw [← BitVec.toNat_inj, h254, h255]
  have := id.isLt
  omega

theorem effectiveExpect_of_le {id : Byte} (h : id.toNat ≤ 253) : effectiveExpect id true = true := by
  rw [effectiveExpect_eq, Bool.true_and, decide_eq_true (id_ne_254_of_le h)]

theorem effectiveExpect_unicast (id : Byte) : effectiveExpect id (id != Config.broadcastId) = decide (id ≠ 254) := by
  rw [effectiveExpect, Bool.and_self, bne, beq_eq_decide, decide_not]
  rfl

section Typed

variable {s : State} (hready : s.cmdReady = true)
include hready

theorem acceptPing_of_le {id : Byte} (hid : id.toNat ≤ 253) :
    acceptPing id s = startTransaction .ping id Config.opPing [] true s := by
  have : ¬ Config.maxUnicastId.toNat < id.toNat := Nat.not_lt.2 hid
  simp [acceptPing, hready, this]

theorem acceptPing_of_gt {id : Byte} (hid : 253 < id.toNat) : acceptPing id s = endAbsent s := by
  have : Config.maxUnicastId.toNat < id.toNat := hid
  simp [acceptPing, hready, this]

theorem acceptReadReg_of_gt (cfg : Params) {id : Byte} (a : Byte) (m : Option ErrorFlags) (hid : 253 < id.toNat) :
    acceptReadReg cfg id a m s = raiseValidation .invalidId s := by
  have : Config.maxUnicastId.toNat < id.toNat := hid
  simp [acceptReadReg, hready, this]

theorem acceptReadReg_of_unknown {cfg : Params} {id a : Byte} (m : Option ErrorFlags) (hid : id.toNat ≤ 253)
    (ha : lookupRegister cfg a = none) : acceptReadReg cfg id a m s = raiseValidation .unknownRegister s := by
  have : ¬ Config.maxUnicastId.toNat < id.toNat := Nat.not_lt.2 hid
  simp [acceptReadReg, hready, this, ha]

theorem acceptReadReg_of_some {cfg : Params} {id a : Byte} (m : Option ErrorFlags) {d : RegisterDescriptor}
    (hid : id.toNat ≤ 253) (ha : lookupRegister cfg a = some d) :
    acceptReadReg cfg id a m s =
      latchTyped d (m.getD cfg.fmaskRead)
        (startTransaction .readReg id Config.opRead [d.address, BitVec.ofNat 8 d.width.bytes] true s) := by
  have : ¬ Config.maxUnicastId.toNat < id.toNat := Nat.not_lt.2 hid
  simp [acceptReadReg, hready, this, ha]

theorem acceptWriteReg_of_illegalId (cfg : Params) {id : Byte} (a : Byte) (v : Rat) (m : Option ErrorFlags)
    (hid : id = 255) : acceptWriteReg cfg id a v m s = raiseValidation .invalidId s := by
  simp [acceptWriteReg, hready, (broadcastId_lt_iff id).2 hid]

section Legal

variable {cfg : Params} {id a : Byte} (v : Rat) (m : Option ErrorFlags) (hid : id ≠ 255)
include hid

theorem acceptWriteReg_of_unknown (ha : lookupRegister cfg a = none) :
    acceptWriteReg cfg id a v m s = raiseValidation .unknownRegister s := by
  simp [acceptWriteReg, hready, mt (broadcastId_lt_iff id).1 hid, ha]

variable {d : RegisterDescriptor} (ha : lookupRegister cfg a = some d)
include ha

theorem acceptWriteReg_of_readOnly (hacc : d.access = .readOnly) :
    acceptWriteReg cfg id a v m s = raiseValidation .readOnlyRegister s := by
  simp [acceptWriteReg, hready, mt (broadcastId_lt_iff id).1 hid, ha, hacc]

theorem acceptWriteReg_of_error (hacc : d.access = .readWrite) {k : ValidationKind} (hv : encodeValue d v = .error k) :
    acceptWriteReg cfg id a v m s = raiseValidation k s := by
  simp [acceptWriteReg, hready, mt (broadcastId_lt_iff id).1 hid, ha, hacc, hv]

theorem acceptWriteReg_of_ok (hacc : d.access = .readWrite) {data : List Byte} (hv : encodeValue d v = .ok data) :
    acceptWriteReg cfg id a v m s =
      latchTyped d (m.getD cfg.fmaskWrite)
        (startTransaction .writeReg id Config.opWrite (d.address :: data) (id != Config.broadcastId) s) := by
  simp [acceptWriteReg, hready, mt (broadcastId_lt_iff id).1 hid, ha, hacc, hv]

end Legal

end Typed

/-- The lookup answers a descriptor of the address asked for (rule R174). -/
theorem address_of_lookupRegister {cfg : Params} {a : Byte} {d : RegisterDescriptor}
    (h : lookupRegister cfg a = some d) : d.address = a := by
  simpa using List.find?_some h

theorem width_byte_toNat (w : Width) : (BitVec.ofNat 8 w.bytes).toNat = w.bytes := by
  cases w <;> rfl

/-- Settles O32: acceptance up to 253, `Present(false)` above. -/
theorem typedPingFollowsItsRule : Obligations.TypedPingFollowsItsRule := by
  intro cfg s id hses hlink hclient
  have hready := cmdReady_popInputs hses hlink
  rw [stepWith_present cfg hses hlink hclient, acceptCommand]
  refine ⟨fun hid => ?_, fun hid => ?_⟩
  · rw [acceptPing_of_le hready hid, startTransaction_eq _ _ _ _ (effectiveExpect_of_le hid)]
    rfl
  · rw [acceptPing_of_gt hready hid]
    rfl

/-- Settles O33: the accepted state, whose parameters are those of a memory read of the register. -/
theorem readRegSendsRead : Obligations.ReadRegSendsRead := by
  intro cfg s id a m d hses hlink hclient hid ha
  have haddr : d.address = a := address_of_lookupRegister ha
  refine ⟨?_, haddr, ?_⟩
  · rw [stepWith_present cfg hses hlink hclient, acceptCommand,
      acceptReadReg_of_some (cmdReady_popInputs hses hlink) m hid ha,
      startTransaction_eq _ _ _ _ (effectiveExpect_of_le hid)]
    rfl
  · simp only [remoteAccess, haddr, width_byte_toNat]

/-- Settles O34: the ID before the lookup. -/
theorem readRegRefusals : Obligations.ReadRegRefusals := by
  intro cfg s id a m hses hlink hclient
  have hready := cmdReady_popInputs hses hlink
  rw [stepWith_present cfg hses hlink hclient, acceptCommand]
  refine ⟨fun hid => ?_, fun hid ha => ?_⟩
  · rw [acceptReadReg_of_gt hready cfg a m hid]
    rfl
  · rw [acceptReadReg_of_unknown hready m hid ha]
    rfl

/-- Settles O35; that the data are not empty, so that the request is a memory write, is `encodeValue_length`. -/
theorem writeRegSendsWrite : Obligations.WriteRegSendsWrite := by
  intro cfg s id a v m d data hses hlink hclient hid ha hacc hv
  have hid255 : id ≠ 255 := by
    rintro rfl
    exact absurd hid (by decide)
  refine ⟨?_, ?_⟩
  · rw [stepWith_present cfg hses hlink hclient, acceptCommand,
      acceptWriteReg_of_ok (cmdReady_popInputs hses hlink) v m hid255 ha hacc hv,
      startTransaction_eq _ _ _ _ (effectiveExpect_unicast id), address_of_lookupRegister ha]
    rfl
  · have hlen := encodeValue_length hv
    cases data with
    | nil => cases hw : d.width <;> simp [hw, Width.bytes] at hlen
    | cons b data => rfl

/-- Settles O36, refusal by refusal; a value outside the range is the codec's first error. -/
theorem writeRegRefusalsInOrder : Obligations.WriteRegRefusalsInOrder := by
  intro cfg s id a v m k hses hlink hclient hk
  have hready := cmdReady_popInputs hses hlink
  have hrefused : acceptWriteReg cfg id a v m (popInputs s) = raiseValidation k (popInputs s) := by
    obtain ⟨hid, rfl⟩ | ⟨hid, ha, rfl⟩ | ⟨hid, d, ha, ⟨hacc, rfl⟩ | ⟨hacc, hrange, rfl⟩ | ⟨hacc, hv⟩⟩ := hk
    · exact acceptWriteReg_of_illegalId hready cfg a v m hid
    · exact acceptWriteReg_of_unknown hready v m hid ha
    · exact acceptWriteReg_of_readOnly hready v m hid ha hacc
    · exact acceptWriteReg_of_error hready v m hid ha hacc (encodeValue_of_out_of_range hrange)
    · exact acceptWriteReg_of_error hready v m hid ha hacc hv
  rw [stepWith_present cfg hses hlink hclient, acceptCommand, hrefused]
  rfl

/-! ## The interpretation of a result -/

/-- A flag of the mask is set (rule R177). -/
theorem flagsMeet_iff (fs mask : ErrorFlags) :
    flagsMeet fs mask = true ↔ ∃ f, hasFlag fs f = true ∧ hasFlag mask f = true := by
  simp only [flagsMeet, Bool.or_eq_true, Bool.and_eq_true]
  constructor
  · rintro (((((h | h) | h) | h) | h) | h)
    · exact ⟨.voltage, h⟩
    · exact ⟨.sensor, h⟩
    · exact ⟨.temperature, h⟩
    · exact ⟨.current, h⟩
    · exact ⟨.angle, h⟩
    · exact ⟨.overload, h⟩
  · rintro ⟨f, h⟩
    cases f <;> simp only [hasFlag] at h <;> simp [h]

theorem flagsMeet_noFlags (fs : ErrorFlags) : flagsMeet fs noFlags = false := by
  simp [flagsMeet, noFlags]

/-- Settles O38: on `Success` a write looks at the flags of the mask alone, `PING` at none. -/
theorem flagsFailOnlyThroughTheMask : Obligations.FlagsFailOnlyThroughTheMask := by
  intro d mask res
  refine ⟨fun hsuccess => ?_, fun hfailure => ?_⟩
  · have hwrite (mask : ErrorFlags) : interpretResult .writeReg d mask res =
        if flagsMeet res.flags mask then .deviceError res.flags else .ok := if_neg (by simp [hsuccess])
    refine ⟨?_, fun hne => ?_, ?_, ?_⟩
    · rw [hwrite, ← flagsMeet_iff]
      cases flagsMeet res.flags mask <;> simp
    · rw [hwrite] at hne ⊢
      exact if_neg fun h => hne (if_pos h)
    · rw [hwrite, flagsMeet_noFlags]
      rfl
    · simp [interpretResult, hsuccess]
  · exact ⟨if_pos hfailure, if_pos hfailure, by simp [interpretResult, hfailure]⟩

end Sys2Proof
end

section
/-! The Transport Session (`41_transport_session.md` rules R132 to R142, R146): one step while a transaction is in
flight. -/

namespace Sys2Proof

open Machine

/-! ## A block in flight does not look at the client -/

/-- While a transaction is in flight, an act of a client that waits has no step of its own (rules R131, R147). -/
theorem serveInputs_deferring (cfg : Params) {p : PortInputs} {s : State} (hses : s.ses ≠ .idle)
    (hp : clientDefers p = true) : serveInputs cfg p s = .next (sessionStep cfg p s) := by
  have hcmd : s.cmdReady = false := by simp [State.cmdReady, hses]
  have hopen : s.openReady = false := by simp [State.openReady, hses]
  have hclose : s.closeReady = false := by simp [State.closeReady, hses]
  cases hc : p.client with
  | quiet => simp only [serveInputs, hc]
  | present c => simp [serveInputs, hc, hcmd]
  | openReq n => simp [serveInputs, hc, hopen]
  | closeReq => simp [serveInputs, hc, hclose]
  | readResult => simp [clientDefers, hc] at hp
  | reset => simp [clientDefers, hc] at hp

theorem stepWith_deferring (cfg : Params) {s : State} (hses : s.ses ≠ .idle) (hp : clientDefers s.port = true) :
    stepWith cfg s = .next (sessionStep cfg s.port (popInputs s)) :=
  serveInputs_deferring cfg hses hp

theorem stepWith_send (cfg : Params) {s : State} (hses : s.ses = .send) (hp : clientDefers s.port = true) :
    stepWith cfg s = .next (sendStep s.port (popInputs s)) := by
  rw [stepWith_deferring cfg (by simp [hses]) hp]
  simp only [sessionStep, popInputs_ses, hses]

theorem stepWith_recv (cfg : Params) {s : State} (hses : s.ses = .recv) (hp : clientDefers s.port = true) :
    stepWith cfg s = .next (recvStep cfg s.port (popInputs s)) := by
  rw [stepWith_deferring cfg (by simp [hses]) hp]
  simp only [sessionStep, popInputs_ses, hses]

/-- Settles O26: each of the three acts leaves the session's step, which does not read the client's act. -/
theorem busyBlockIgnoresTheClient : Obligations.BusyBlockIgnoresTheClient := by
  intro cfg p s c baud hses
  have hquiet : serveInputs cfg { p with client := .quiet } s = .next (sessionStep cfg p s) :=
    serveInputs_deferring cfg hses rfl
  rw [hquiet]
  exact ⟨serveInputs_deferring cfg hses rfl, serveInputs_deferring cfg hses rfl, serveInputs_deferring cfg hses rfl⟩

/-! ## SEND -/

section Send

variable {p : PortInputs} {s : State}

theorem sendStep_of_ready (hlt : s.txI < s.txLen) (hp : p.txReady = true) : sendStep p s = transmitByte s := by
  simp [sendStep, hlt, hp]

theorem sendStep_of_stall (hlt : s.txI < s.txLen) (hp : p.txReady = false) : sendStep p s = s := by
  simp [sendStep, hlt, hp]

theorem sendStep_of_awaited (hsent : s.txLen ≤ s.txI) (he : s.cExpect = true) : sendStep p s = startReception s := by
  simp [sendStep, Nat.not_lt.2 hsent, he]

theorem sendStep_of_unawaited (hsent : s.txLen ≤ s.txI) (he : s.cExpect = false) :
    sendStep p s = endTransaction unawaitedResult s := by
  simp [sendStep, Nat.not_lt.2 hsent, he]

end Send

/-- Settles O19: a ready transport and one that stalls. -/
theorem sendTransmitsNextByte : Obligations.SendTransmitsNextByte := by
  intro cfg s hses hlt hdefers
  rw [stepWith_send cfg hses hdefers]
  refine ⟨fun hp => ?_, fun hp => ?_⟩
  · rw [sendStep_of_ready (s := popInputs s) hlt hp]
    rfl
  · rw [sendStep_of_stall (s := popInputs s) hlt hp]
    rfl

/-- Settles O20: the request is out and no response is expected. -/
theorem unawaitedCommandEndsInSuccess : Obligations.UnawaitedCommandEndsInSuccess := by
  intro cfg s hses hsent he hdefers
  rw [stepWith_send cfg hses hdefers, sendStep_of_unawaited (s := popInputs s) hsent.ge he]
  rfl

/-- Settles O21: the request is out and a response is expected. -/
theorem receptionStartsEmpty : Obligations.ReceptionStartsEmpty := by
  intro cfg s hses hsent he hdefers
  rw [stepWith_send cfg hses hdefers, sendStep_of_awaited (s := popInputs s) hsent.ge he]
  rfl

/-! ## RECV -/

/-- The state with the byte that the port delivers, if any, in the receive buffer. -/
def received (p : PortInputs) (s : State) : State := { s with rxb := s.rxb ++ p.rx.toList }

/-- The port delivers the byte that makes the frame full (rule R136). -/
def completes (p : PortInputs) (s : State) : Bool := p.rx.isSome && frameComplete (s.rxb ++ p.rx.toList)

theorem received_of_none {p : PortInputs} (h : p.rx = none) (s : State) : received p s = s := by
  simp [received, h]

theorem received_of_some {p : PortInputs} {b : Byte} (h : p.rx = some b) (s : State) :
    received p s = { s with rxb := s.rxb ++ [b] } := by
  simp [received, h]

theorem completes_of_none {p : PortInputs} (h : p.rx = none) (s : State) : completes p s = false := by
  simp [completes, h]

theorem completes_of_some {p : PortInputs} {b : Byte} (h : p.rx = some b) (s : State) :
    completes p s = frameComplete (s.rxb ++ [b]) := by
  simp [completes, h]

theorem frameComplete_iff (rxb : List Byte) :
    frameComplete rxb = true ↔ 4 ≤ rxb.length ∧ rxb.length = 4 + (byteAt rxb 3).toNat := by
  simp [frameComplete]

/-- The port's byte in `RECV`, whether one is delivered or not. -/
theorem receivePort_of_completes (cfg : Params) {p : PortInputs} {s : State} (h : completes p s = true) :
    receivePort cfg p.rx s =
      endTransaction (decodeResponse cfg.errBit (s.rxb ++ p.rx.toList) s.cId) (received p s) := by
  cases hrx : p.rx with
  | none => rw [completes_of_none hrx] at h; cases h
  | some b =>
    rw [completes_of_some hrx] at h
    rw [received_of_some hrx]
    exact if_pos h

theorem receivePort_of_incomplete (cfg : Params) {p : PortInputs} {s : State} (h : completes p s = false) :
    receivePort cfg p.rx s = received p s := by
  cases hrx : p.rx with
  | none => rw [received_of_none hrx]; rfl
  | some b =>
    rw [completes_of_some hrx] at h
    rw [received_of_some hrx]
    exact if_neg (by simp [h])

section Recv

variable (cfg : Params) {p : PortInputs} {s : State}

/-- The byte is taken before the tick: a frame that it completes ends the transaction (rules R136, R140). -/
theorem recvStep_of_completes (h : completes p s = true) :
    recvStep cfg p s =
      endTransaction (decodeResponse cfg.errBit (s.rxb ++ p.rx.toList) s.cId) (received p s) := by
  rw [recvStep, receivePort_of_completes cfg h]
  exact if_neg (by simp)

theorem recvStep_of_no_tick (h : completes p s = false) (htick : p.tick = false) :
    recvStep cfg p s = received p s := by
  rw [recvStep, receivePort_of_incomplete cfg h]
  exact if_neg (by simp [htick])

theorem recvStep_of_tick (hses : s.ses = .recv) (h : completes p s = false) (htick : p.tick = true) :
    recvStep cfg p s = tickReception cfg (received p s) := by
  rw [recvStep, receivePort_of_incomplete cfg h]
  exact if_pos ⟨htick, hses⟩

theorem recvStep_of_count (hses : s.ses = .recv) (h : completes p s = false) (htick : p.tick = true)
    (hlt : s.timer + 1 < cfg.timeoutTicks) :
    recvStep cfg p s = { received p s with timer := s.timer + 1 } := by
  rw [recvStep_of_tick cfg hses h htick]
  exact if_pos hlt

theorem recvStep_of_expiry (hses : s.ses = .recv) (h : completes p s = false) (htick : p.tick = true)
    (hge : cfg.timeoutTicks ≤ s.timer + 1) :
    recvStep cfg p s =
      endTransaction (timeoutResult cfg (s.rxb ++ p.rx.toList) s.cId) { received p s with timer := s.timer + 1 } := by
  rw [recvStep_of_tick cfg hses h htick]
  exact if_neg (Nat.not_lt.2 hge)

/-- Everything one step in `RECV` can do (rules R135 to R140). -/
theorem recvStep_cases (p : PortInputs) (hses : s.ses = .recv) :
    (completes p s = true ∧ recvStep cfg p s =
      endTransaction (decodeResponse cfg.errBit (s.rxb ++ p.rx.toList) s.cId) (received p s)) ∨
    (completes p s = false ∧ p.tick = false ∧ recvStep cfg p s = received p s) ∨
    (completes p s = false ∧ p.tick = true ∧ s.timer + 1 < cfg.timeoutTicks ∧
      recvStep cfg p s = { received p s with timer := s.timer + 1 }) ∨
    (completes p s = false ∧ p.tick = true ∧ cfg.timeoutTicks ≤ s.timer + 1 ∧ recvStep cfg p s =
      endTransaction (timeoutResult cfg (s.rxb ++ p.rx.toList) s.cId) { received p s with timer := s.timer + 1 }) := by
  cases hc : completes p s with
  | true => exact .inl ⟨rfl, recvStep_of_completes cfg hc⟩
  | false =>
    cases ht : p.tick with
    | false => exact .inr (.inl ⟨rfl, rfl, recvStep_of_no_tick cfg hc ht⟩)
    | true =>
      obtain hlt | hge := Nat.lt_or_ge (s.timer + 1) cfg.timeoutTicks
      · exact .inr (.inr (.inl ⟨rfl, rfl, hlt, recvStep_of_count cfg hses hc ht hlt⟩))
      · exact .inr (.inr (.inr ⟨rfl, rfl, hge, recvStep_of_expiry cfg hses hc ht hge⟩))

end Recv

/-! ## The results of an ended transaction -/

@[simp] theorem readTransaction_endTransaction (res : TransactionResult) (s : State) :
    readTransaction (endTransaction res s) = some res := rfl

@[simp] theorem readTypedResult_endTransaction (res : TransactionResult) (s : State) :
    readTypedResult (endTransaction res s) = some (interpretResult s.tKind s.tDesc s.tFmask res) := rfl

/-- Settles O22: the byte completes the frame or not, and no tick follows it. -/
theorem receivedByteAppendsOrCompletes : Obligations.ReceivedByteAppendsOrCompletes := by
  intro cfg s b hses hdefers hrx htick
  have hcomplete : completes s.port (popInputs s) = frameComplete (s.rxb ++ [b]) := completes_of_some hrx _
  have hiff : frameComplete (s.rxb ++ [b]) = true ↔
      4 ≤ s.rxLen + 1 ∧ s.rxLen + 1 = 4 + (byteAt (s.rxb ++ [b]) 3).toNat := by
    simp [frameComplete_iff, State.rxLen]
  rw [stepWith_recv cfg hses hdefers]
  refine ⟨fun h => ?_, fun h => ?_⟩
  · rw [← hiff, Bool.not_eq_true, ← hcomplete] at h
    rw [recvStep_of_no_tick cfg h htick, received_of_some hrx]
    rfl
  · rw [← hiff, ← hcomplete] at h
    rw [recvStep_of_completes cfg h, received_of_some hrx, hrx]
    exact ⟨_, rfl, rfl, rfl, rfl, rfl, rfl, rfl, rfl, rfl⟩

/-- Settles O23: below `TIMEOUT_TICKS` the tick counts; at it, with nothing received, the result is `Timeout`. -/
theorem ticksCountToTimeout : Obligations.TicksCountToTimeout := by
  intro cfg s hses hdefers hrx htick
  have hcomplete : completes s.port (popInputs s) = false := completes_of_none hrx _
  rw [stepWith_recv cfg hses hdefers]
  refine ⟨fun hlt => ?_, fun heq hempty => ?_⟩
  · rw [recvStep_of_count cfg (s := popInputs s) hses hcomplete htick hlt, received_of_none hrx]
    rfl
  · have hresult : timeoutResult cfg ((popInputs s).rxb ++ s.port.rx.toList) (popInputs s).cId = failResult .timeout :=
      if_pos (by simp [hempty, hrx])
    rw [recvStep_of_expiry cfg (s := popInputs s) hses hcomplete htick heq.ge, received_of_none hrx, hresult]
    rfl

/-- What `Decode` makes of an incomplete frame (rules R118, R136): the count and the length byte disagree. -/
theorem decodeResponse_of_incomplete (eb : ErrBit) {rxb : List Byte} (id : Byte)
    (h : rxb.length < 4 ∨ rxb.length < 4 + (byteAt rxb 3).toNat) :
    decodeResponse eb rxb id = failResult .malformedLength := by
  refine decodeResponse_of_length eb rxb id (Bool.eq_false_iff.2 fun hagrees => ?_)
  obtain ⟨h4, -, hcount⟩ := (lengthAgrees_iff rxb).1 hagrees
  omega

/-- Settles O24: in a state of the invariant the bytes received so far are an incomplete frame. -/
theorem partialFrameTimesOutMalformed : Obligations.PartialFrameTimesOutMalformed := by
  intro cfg s hses hinv hdefers hrx htick heq hne
  have hresult : timeoutResult cfg s.rxb s.cId = failResult .malformedLength :=
    (if_neg hne).trans (decodeResponse_of_incomplete cfg.errBit s.cId (hinv.recv hses).incomplete)
  rw [stepWith_recv cfg hses hdefers,
    recvStep_of_expiry cfg (s := popInputs s) hses (completes_of_none hrx _) htick heq.ge]
  refine ⟨_, rfl, rfl, ?_⟩
  rw [readTransaction_endTransaction, hrx, Option.toList_none, List.append_nil, popInputs_rxb, popInputs_cId, hresult,
    failResult]

theorem frameComplete_encodeRequest (id op : Byte) {ps : List Byte} (hps : ps.length ≤ 253) :
    frameComplete (encodeRequest id op ps) = true := by
  rw [frameComplete_iff, length_encodeRequest, byteAt_encodeRequest_lengthField, toNat_lengthField ps hps]
  omega

/-- Settles O37: the frame is complete, so the tick is not looked at, and `Decode` recovers its fields. -/
theorem readRegResultFollowsResponse : Obligations.ReadRegResultFollowsResponse := by
  intro cfg s b status payload hses _ hkind hdefers hrx hlen hframe
  have hcomplete : completes s.port (popInputs s) = true := by
    rw [completes_of_some hrx, popInputs_rxb, hframe, frameComplete_encodeRequest _ _ hlen]
  refine ⟨_, (stepWith_recv cfg hses hdefers).trans (congrArg _ (recvStep_of_completes cfg hcomplete)), rfl, ?_⟩
  have hdecode : decodeResponse cfg.errBit ((popInputs s).rxb ++ s.port.rx.toList) (popInputs s).cId =
      { comm := .success, status := status, flags := flagDecode cfg.errBit status, payload := payload } := by
    rw [hrx, Option.toList_some, popInputs_rxb, popInputs_cId, hframe, decodeInvertsEncode _ _ _ _ hlen]
  rw [readTransaction_endTransaction, readTypedResult_endTransaction, hdecode]
  refine ⟨rfl, fun hflags => ?_, fun hflags hwidth => ?_, fun hflags hwidth => ?_⟩
  · simp [received, interpretResult, hkind, hflags]
  · simp [received, interpretResult, hkind, hflags, hwidth]
  · simp [received, interpretResult, hkind, hflags, hwidth]

/-- Settles O30: the untimed event is the tick that makes `TIMEOUT_TICKS`, and nothing but the timer keeps count. -/
theorem untimedReceptionAdmitsTimed : Obligations.UntimedReceptionAdmitsTimed := by
  intro cfg p s hses
  obtain ⟨hc, h⟩ | ⟨hc, -, h⟩ | ⟨hc, -, -, h⟩ | ⟨hc, -, -, h⟩ := recvStep_cases cfg p hses
  · refine ⟨false, s.timer, ?_⟩
    rw [h, recvUntimed, receivePort_of_completes cfg hc]
    rfl
  · refine ⟨false, s.timer, ?_⟩
    rw [h, recvUntimed, receivePort_of_incomplete cfg hc]
    rfl
  · refine ⟨false, s.timer + 1, ?_⟩
    rw [h, recvUntimed, receivePort_of_incomplete cfg hc]
    rfl
  · refine ⟨true, s.timer + 1, ?_⟩
    rw [h, recvUntimed, receivePort_of_incomplete cfg hc, if_pos ⟨rfl, hses⟩]
    rfl

end Sys2Proof
end

section
/-! The whole block: the invariant at reset and along every step, and what every step keeps (`10_state.md` rules R22 to
R29, R33; `41_transport_session.md` rules R142 to R145; `60_exceptions.md` rule R240; `70_reset_and_hazards.md` rules
R260, R264, R273). -/

namespace Sys2Proof

open Machine

/-! ## Legal results -/

/-- What the result registers may take: a bounded payload, and nothing beside a communication failure (rules R23,
R122). -/
structure LegalResult (res : TransactionResult) : Prop where
  payloadBound : res.payload.length ≤ Config.maxParams
  failureEmpty : res.comm ≠ .success → res.status = 0 ∧ res.flags = noFlags ∧ res.payload = []

theorem legalResult_failResult (c : CommResult) : LegalResult (failResult c) :=
  ⟨Nat.zero_le _, fun _ => ⟨rfl, rfl, rfl⟩⟩

theorem legalResult_unawaitedResult : LegalResult unawaitedResult :=
  ⟨Nat.zero_le _, fun h => absurd rfl h⟩

theorem legalResult_decodeResponse (eb : ErrBit) (raw : List Byte) (id : Byte) :
    LegalResult (decodeResponse eb raw id) := by
  obtain ⟨c, -, -, h⟩ | ⟨hv, -, h⟩ := decodeResponse_cases eb raw id
  · rw [h]
    exact legalResult_failResult c
  · rw [h]
    obtain ⟨-, hlen⟩ := hv.eq_encodeRequest
    exact ⟨hlen, fun hne => absurd rfl hne⟩

theorem legalResult_timeoutResult (cfg : Params) (rxb : List Byte) (id : Byte) :
    LegalResult (timeoutResult cfg rxb id) := by
  unfold timeoutResult
  split
  · exact legalResult_failResult _
  · exact legalResult_decodeResponse ..

/-- `CommError` never carries `Success` (rule R160). -/
theorem interpretResult_ne_commError_success (kind : CommandKind) (d : RegisterDescriptor) (m : ErrorFlags)
    (res : TransactionResult) : interpretResult kind d m res ≠ .commError .success := by
  cases kind with
  | raw => simp [interpretResult]
  | ping => simp [interpretResult]
  | readReg =>
    simp only [interpretResult]
    split
    · simpa using ‹res.comm ≠ .success›
    · split
      · simp
      · split <;> simp
  | writeReg =>
    simp only [interpretResult]
    split
    · simpa using ‹res.comm ≠ .success›
    · split <;> simp

/-! ## The invariant under the shared operations -/

section Invariant

variable {cfg : Params} {s : State}

theorem inv_of_idle (hregs : RegInv cfg s) (hses : s.ses = .idle) : s.Inv cfg :=
  ⟨hregs, by simp [hses], by simp [hses]⟩

theorem inv_popInputs (h : s.Inv cfg) : (popInputs s).Inv cfg where
  regs := { h.regs with }
  send hses := { h.send hses with }
  recv hses := { h.recv hses with inFlight := { (h.recv hses).inFlight with } }

theorem inv_resetBlock (cfg : Params) (s : State) : (resetBlock s).Inv cfg :=
  inv_of_idle
    { paramBound := Nat.zero_le _
      payloadBound := Nat.zero_le _
      txBound := Nat.zero_le _
      txIndex := Nat.zero_le _
      rxBound := Nat.zero_le _
      timerBound := Nat.zero_le _
      noCommErrorSuccess := by simp [State.reset]
      failureEmpty := fun h => absurd rfl h } rfl

theorem inv_raiseValidation (h : s.Inv cfg) (hses : s.ses = .idle) (k : ValidationKind) :
    (raiseValidation k s).Inv cfg :=
  inv_of_idle { h.regs with noCommErrorSuccess := by simp } hses

theorem inv_endAbsent (h : s.Inv cfg) (hses : s.ses = .idle) : (endAbsent s).Inv cfg :=
  inv_of_idle { h.regs with noCommErrorSuccess := by simp } hses

theorem inv_openLink (h : s.Inv cfg) (hses : s.ses = .idle) (n : Nat) (b : Bool) : (openLink n b s).Inv cfg :=
  inv_of_idle { h.regs with } hses

theorem inv_closeLink (h : s.Inv cfg) (hses : s.ses = .idle) : (closeLink s).Inv cfg :=
  inv_of_idle { h.regs with } hses

theorem inv_latchTyped (h : s.Inv cfg) (d : RegisterDescriptor) (m : ErrorFlags) : (latchTyped d m s).Inv cfg where
  regs := { h.regs with }
  send hses := { h.send hses with }
  recv hses := { h.recv hses with inFlight := { (h.recv hses).inFlight with } }

/-- The broadcast ID is never awaited (rule R199). -/
theorem ne_broadcastId_of_effectiveExpect {id : Byte} {resp : Bool} (h : effectiveExpect id resp = true) :
    id ≠ Config.broadcastId := by
  simp only [effectiveExpect, Bool.and_eq_true, bne_iff_ne] at h
  exact h.2

theorem inv_startTransaction (h : s.Inv cfg) (kind : CommandKind) {id op : Byte} {ps : List Byte} {resp : Bool}
    (hlink : s.linkOpen = true) (hid : id ≠ Config.illegalId)
    (hop : (decodeCommand id op ps resp).isSome = true) (hlen : ps.length ≤ Config.maxParams) :
    (startTransaction kind id op ps resp s).Inv cfg where
  regs :=
    { paramBound := hlen
      payloadBound := h.regs.payloadBound
      txBound := by
        rw [State.txLen, startTransaction_txb, length_encodeRequest]
        exact Nat.add_le_add_right hlen 6
      txIndex := Nat.zero_le _
      rxBound := Nat.zero_le _
      timerBound := Nat.zero_le _
      noCommErrorSuccess := h.regs.noCommErrorSuccess
      failureEmpty := fun hne => absurd rfl hne }
  send _ :=
    { linkOpen := hlink
      noResult := rfl
      legalId := hid
      legalOpcode := (decodeCommand_isSome ..).trans hop
      expectUnicast := ne_broadcastId_of_effectiveExpect
      request := rfl }
  recv hses := by simp at hses

/-- Acceptance of a command keeps the invariant (rule R131). -/
theorem inv_of_accepted {t : State} (h : s.Inv cfg) (hready : s.cmdReady = true) (ha : Accepted s t) : t.Inv cfg := by
  obtain ⟨hses, hlink⟩ := (cmdReady_iff s).1 hready
  cases ha with
  | waits => exact h
  | invalid k => exact inv_raiseValidation h hses k
  | absent => exact inv_endAbsent h hses
  | started kind id op ps resp _ _ hid hop hlen => exact inv_startTransaction h kind hlink hid hop hlen
  | latched kind d m id op ps resp _ hid hop hlen =>
    exact inv_latchTyped (inv_startTransaction h kind hlink hid hop hlen) d m

/-! ## The invariant under the session's step -/

theorem regInv_endTransaction (h : RegInv cfg s) {res : TransactionResult} (hres : LegalResult res) :
    RegInv cfg (endTransaction res s) :=
  { h with
    payloadBound := hres.payloadBound
    noCommErrorSuccess := interpretResult_ne_commError_success _ _ _ _
    failureEmpty := hres.failureEmpty }

theorem inv_endTransaction (h : RegInv cfg s) {res : TransactionResult} (hres : LegalResult res) :
    (endTransaction res s).Inv cfg :=
  inv_of_idle (regInv_endTransaction h hres) rfl

theorem inv_transmitByte (h : s.Inv cfg) (hses : s.ses = .send) (hlt : s.txI < s.txLen) : (transmitByte s).Inv cfg where
  regs := { h.regs with txIndex := hlt }
  send _ := { h.send hses with }
  recv hrecv := by simp [hses] at hrecv

theorem inv_startReception (hcfg : 1 ≤ cfg.timeoutTicks) (h : s.Inv cfg) (hses : s.ses = .send)
    (hsent : s.txLen ≤ s.txI) (he : s.cExpect = true) : (startReception s).Inv cfg where
  regs := { h.regs with rxBound := Nat.zero_le _, timerBound := Nat.zero_le _ }
  send hsend := by simp at hsend
  recv _ :=
    { inFlight := { h.send hses with }
      sent := le_antisymm h.regs.txIndex hsent
      awaited := he
      incomplete := .inl (by simp [State.rxLen])
      budget := hcfg }

theorem inv_sendStep (hcfg : 1 ≤ cfg.timeoutTicks) (p : PortInputs) (h : s.Inv cfg) (hses : s.ses = .send) :
    (sendStep p s).Inv cfg := by
  obtain ⟨hlt, -, heq⟩ | ⟨-, -, heq⟩ | ⟨hsent, he, heq⟩ | ⟨-, -, heq⟩ := sendStep_cases p s <;> rw [heq]
  · exact inv_transmitByte h hses hlt
  · exact h
  · exact inv_startReception hcfg h hses hsent he
  · exact inv_endTransaction h.regs legalResult_unawaitedResult

theorem length_toList_le_one {α : Type} (o : Option α) : o.toList.length ≤ 1 := by
  cases o <;> simp

/-- An incomplete frame has room for one more byte (rule R25). -/
theorem regInv_received (p : PortInputs) (h : s.Inv cfg) (hses : s.ses = .recv) {k : Nat} (hk : k ≤ cfg.timeoutTicks) :
    RegInv cfg { received p s with timer := k } where
  __ := h.regs
  timerBound := hk
  rxBound := by
    have hinc := (h.recv hses).incomplete
    have hbyte : (byteAt s.rxb 3).toNat < 256 := (byteAt s.rxb 3).isLt
    have hone := length_toList_le_one p.rx
    simp only [State.rxLen] at hinc
    simp only [State.rxLen, received, List.length_append, Config.maxFrame]
    omega

/-- A byte that does not complete an incomplete frame leaves it incomplete (rule R136). -/
theorem incomplete_received {p : PortInputs} (hc : completes p s = false)
    (hinc : s.rxLen < 4 ∨ s.rxLen < 4 + (byteAt s.rxb 3).toNat) :
    (received p s).rxLen < 4 ∨ (received p s).rxLen < 4 + (byteAt (received p s).rxb 3).toNat := by
  cases hrx : p.rx with
  | none => rwa [received_of_none hrx]
  | some b =>
    rw [completes_of_some hrx, ← Bool.not_eq_true, frameComplete_iff] at hc
    simp only [received_of_some hrx, State.rxLen] at hinc ⊢
    rw [List.length_append, List.length_singleton] at hc ⊢
    by_cases h4 : 3 < s.rxb.length
    · rw [byteAt_append_left _ _ _ h4] at hc ⊢
      omega
    · omega

/-- While the frame is incomplete and the time is not over, the reception goes on. -/
theorem inv_received {p : PortInputs} (h : s.Inv cfg) (hses : s.ses = .recv) (hc : completes p s = false) {k : Nat}
    (hk : k < cfg.timeoutTicks) : State.Inv cfg { received p s with timer := k } where
  regs := regInv_received p h hses hk.le
  send hsend := by simp [received, hses] at hsend
  recv _ :=
    { inFlight := { (h.recv hses).inFlight with }
      sent := (h.recv hses).sent
      awaited := (h.recv hses).awaited
      incomplete := incomplete_received hc (h.recv hses).incomplete
      budget := hk }

theorem inv_recvStep (p : PortInputs) (h : s.Inv cfg) (hses : s.ses = .recv) : (recvStep cfg p s).Inv cfg := by
  have hbudget := (h.recv hses).budget
  obtain ⟨-, heq⟩ | ⟨hc, -, heq⟩ | ⟨hc, -, hlt, heq⟩ | ⟨-, -, -, heq⟩ := recvStep_cases cfg p hses <;> rw [heq]
  · exact inv_endTransaction (regInv_received p h hses hbudget.le) (legalResult_decodeResponse ..)
  · exact inv_received h hses hc hbudget
  · exact inv_received h hses hc hlt
  · exact inv_endTransaction (regInv_received p h hses hbudget) (legalResult_timeoutResult ..)

theorem inv_sessionStep (hcfg : 1 ≤ cfg.timeoutTicks) (p : PortInputs) (h : s.Inv cfg) :
    (sessionStep cfg p s).Inv cfg := by
  cases hses : s.ses with
  | idle => rwa [sessionStep_of_idle cfg p hses]
  | send => simpa only [sessionStep, hses] using inv_sendStep hcfg p h hses
  | recv => simpa only [sessionStep, hses] using inv_recvStep p h hses

end Invariant

theorem timeoutTicks_pos_of_wellFormed {cfg : Params} (h : cfg.wellFormed = true) : 1 ≤ cfg.timeoutTicks := by
  simp only [Params.wellFormed, Bool.and_eq_true, decide_eq_true_eq] at h
  exact h.2

/-- Settles O44: each thing that a step can do keeps the invariant. -/
theorem stepKeepsInvariant : Obligations.StepKeepsInvariant := by
  intro cfg s t hcfg hinv hstep
  have h := inv_popInputs hinv
  obtain ⟨-, heq⟩ | ⟨-, -, heq⟩ | ⟨c, u, -, hready, ha, heq⟩ | ⟨n, -, hready, heq⟩ | ⟨-, hready, heq⟩ | heq :=
    serveInputs_cases cfg s.port (popInputs s) <;> rw [stepWith, heq] at hstep <;> cases hstep
  · exact inv_resetBlock cfg _
  · exact inv_of_accepted h hready ha
  · exact inv_openLink h ((openReady_iff _).1 hready).1 n _
  · exact inv_closeLink h ((closeReady_iff _).1 hready).1
  · exact inv_sessionStep (timeoutTicks_pos_of_wellFormed hcfg) _ h

/-- Settles O45: the state after reset is the reset of itself. -/
theorem invariantHoldsAtReset : Obligations.InvariantHoldsAtReset := fun cfg => inv_resetBlock cfg State.reset

/-- Settles O51: it is part of the invariant in `RECV`. -/
theorem broadcastIsNeverAwaited : Obligations.BroadcastIsNeverAwaited := by
  intro cfg s t hcfg hinv hstep hses
  have hrecv := (stepKeepsInvariant cfg s t hcfg hinv hstep).recv hses
  exact ⟨hrecv.inFlight.expectUnicast hrecv.awaited, hrecv.inFlight.legalId, hrecv.inFlight.request⟩

/-! ## Every step -/

/-- Settles O46: the fault is one case of the step, and its condition that of the case. -/
theorem onlyAnEarlyReadStops : Obligations.OnlyAnEarlyReadStops := by
  intro cfg s
  refine ⟨fun ⟨hclient, hvalid⟩ => ?_, fun hearly => ?_⟩
  · simp [stepWith, serveInputs, hclient, hvalid]
  · obtain ⟨-, heq⟩ | ⟨hclient, hvalid, -⟩ | ⟨c, t, -, -, -, heq⟩ | ⟨n, -, -, heq⟩ | ⟨-, -, heq⟩ | heq :=
      serveInputs_cases cfg s.port (popInputs s)
    · exact ⟨_, heq⟩
    · exact absurd ⟨hclient, hvalid⟩ hearly
    · exact ⟨_, heq⟩
    · exact ⟨_, heq⟩
    · exact ⟨_, heq⟩
    · exact ⟨_, heq⟩

theorem wire_of_accepted {s t : State} (h : Accepted s t) : t.wire = s.wire := by
  cases h <;> rfl

theorem recvStep_wire (cfg : Params) (p : PortInputs) {s : State} (hses : s.ses = .recv) :
    (recvStep cfg p s).wire = s.wire := by
  obtain ⟨-, heq⟩ | ⟨-, -, heq⟩ | ⟨-, -, -, heq⟩ | ⟨-, -, -, heq⟩ := recvStep_cases cfg p hses <;> rw [heq] <;> rfl

/-- The session transmits by `transmitByte` alone. -/
theorem sessionStep_wire (cfg : Params) (p : PortInputs) (s : State) :
    (sessionStep cfg p s).wire = s.wire ∨
      s.ses = .send ∧ s.txI < s.txLen ∧ sessionStep cfg p s = transmitByte s := by
  cases hses : s.ses with
  | idle => exact .inl (by rw [sessionStep_of_idle cfg p hses])
  | send =>
    simp only [sessionStep, hses]
    obtain ⟨hlt, -, heq⟩ | ⟨-, -, heq⟩ | ⟨-, -, heq⟩ | ⟨-, -, heq⟩ := sendStep_cases p s
    · exact .inr ⟨trivial, hlt, heq⟩
    · exact .inl (by rw [heq])
    · exact .inl (by rw [heq]; rfl)
    · exact .inl (by rw [heq]; rfl)
  | recv =>
    simp only [sessionStep, hses]
    exact .inl (recvStep_wire cfg p hses)

/-- Settles O47: reset and acceptance ask nothing of the transport. -/
theorem onlySendTransmits : Obligations.OnlySendTransmits := by
  intro cfg s t hstep
  obtain ⟨-, heq⟩ | ⟨-, -, heq⟩ | ⟨c, u, -, -, ha, heq⟩ | ⟨n, -, hready, heq⟩ | ⟨-, hready, heq⟩ | heq :=
    serveInputs_cases cfg s.port (popInputs s) <;> rw [stepWith, heq] at hstep <;> cases hstep
  · exact .inl rfl
  · have hwire := wire_of_accepted ha
    exact .inl hwire
  · obtain ⟨hses, hlink⟩ := (openReady_iff _).1 hready
    exact .inr (.inr (.inl ⟨hses, hlink, n, rfl⟩))
  · obtain ⟨hses, hlink⟩ := (closeReady_iff _).1 hready
    exact .inr (.inr (.inr ⟨hses, hlink, rfl⟩))
  · obtain hsame | ⟨hses, hlt, htx⟩ := sessionStep_wire cfg s.port (popInputs s)
    · exact .inl hsame
    · rw [htx]
      exact .inr (.inl ⟨hses, hlt, rfl, rfl⟩)

/-! ## The transitions of the session -/

/-- A command either leaves the session alone or starts a transaction without a result (rules R131, R142). -/
theorem ses_of_accepted {s t : State} (h : Accepted s t) : t.ses = s.ses ∨ t.ses = .send ∧ t.rValid = false := by
  cases h with
  | waits => exact .inl rfl
  | invalid => exact .inl rfl
  | absent => exact .inl rfl
  | started => exact .inr ⟨rfl, rfl⟩
  | latched => exact .inr ⟨rfl, rfl⟩

/-- In `RECV` a step goes on or ends with a result. -/
theorem recvStep_ses (cfg : Params) (p : PortInputs) {s : State} (hses : s.ses = .recv) :
    (recvStep cfg p s).ses = .recv ∨ (recvStep cfg p s).ses = .idle ∧ (recvStep cfg p s).rValid = true := by
  obtain ⟨-, heq⟩ | ⟨-, -, heq⟩ | ⟨-, -, -, heq⟩ | ⟨-, -, -, heq⟩ := recvStep_cases cfg p hses <;> rw [heq]
  · exact .inr ⟨rfl, rfl⟩
  · exact .inl hses
  · exact .inl hses
  · exact .inr ⟨rfl, rfl⟩

/-- The session's own transitions (rule R143). -/
theorem sessionStep_ses (cfg : Params) (p : PortInputs) (s : State) :
    ((sessionStep cfg p s).ses = .send ∧ s.ses = .send ∧ s.txI < s.txLen) ∨
    ((sessionStep cfg p s).ses = .recv ∧ (s.ses = .recv ∨ s.ses = .send ∧ s.txLen ≤ s.txI ∧ s.cExpect = true)) ∨
    ((sessionStep cfg p s).ses = .idle ∧ (s.ses = .idle ∨ (sessionStep cfg p s).rValid = true)) := by
  cases hses : s.ses with
  | idle =>
    rw [sessionStep_of_idle cfg p hses]
    exact .inr (.inr ⟨hses, .inl rfl⟩)
  | send =>
    simp only [sessionStep, hses]
    obtain ⟨hlt, -, heq⟩ | ⟨hlt, -, heq⟩ | ⟨hsent, he, heq⟩ | ⟨-, -, heq⟩ := sendStep_cases p s <;> rw [heq]
    · exact .inl ⟨hses, trivial, hlt⟩
    · exact .inl ⟨hses, trivial, hlt⟩
    · exact .inr (.inl ⟨rfl, .inr ⟨trivial, hsent, he⟩⟩)
    · exact .inr (.inr ⟨rfl, .inr rfl⟩)
  | recv =>
    simp only [sessionStep, hses]
    obtain h | h := recvStep_ses cfg p hses
    · exact .inr (.inl ⟨h, .inl trivial⟩)
    · exact .inr (.inr ⟨h.1, .inr h.2⟩)

/-- Settles O48: reset apart, the session moves by acceptance in `IDLE` and by its own transitions. -/
theorem sessionTransitionsAreClosed : Obligations.SessionTransitionsAreClosed := by
  intro cfg s t hreset hstep
  obtain ⟨hclient, -⟩ | ⟨-, -, heq⟩ | ⟨c, u, hclient, hready, ha, heq⟩ | ⟨n, -, hready, heq⟩ | ⟨-, hready, heq⟩ | heq :=
    serveInputs_cases cfg s.port (popInputs s)
  · exact absurd hclient hreset
  all_goals rw [stepWith, heq] at hstep; cases hstep
  · obtain ⟨hses, hlink⟩ : s.ses = .idle ∧ s.linkOpen = true := (cmdReady_iff _).1 hready
    obtain h | ⟨h, hvalid⟩ := ses_of_accepted ha
    · simp [h, hses]
    · simp [h, hses, hlink, hvalid, hclient]
  · have hses : s.ses = .idle := ((openReady_iff _).1 hready).1
    simp [hses]
  · have hses : s.ses = .idle := ((closeReady_iff _).1 hready).1
    simp [hses]
  · obtain ⟨h, hold⟩ | ⟨h, hold⟩ | ⟨h, hold⟩ := sessionStep_ses cfg s.port (popInputs s)
    · exact ⟨fun _ => .inl hold, by simp [h], by simp [h]⟩
    · exact ⟨by simp [h], fun _ => hold, by simp [h]⟩
    · exact ⟨by simp [h], by simp [h], fun _ => hold⟩

/-- Settles O49: the step is `resetBlock`. -/
theorem resetLeavesItsValues : Obligations.ResetLeavesItsValues := by
  refine ⟨fun cfg s hclient => ⟨resetBlock (popInputs s), ?_, rfl, rfl, rfl, rfl, rfl, rfl, rfl, rfl, rfl⟩,
    rfl, rfl, rfl, rfl, rfl⟩
  simp only [stepWith, serveInputs, hclient]

/-- Settles O50: what is left to the client is `OPEN`, `CLOSE` and a read, and the session rests in `IDLE`. -/
theorem resultStaysReadable : Obligations.ResultStaysReadable := by
  intro cfg s hses hvalid hreset hnone
  obtain ⟨hclient, -⟩ | ⟨-, hinvalid, -⟩ | ⟨c, t, hclient, hready, -, -⟩ | ⟨n, -, -, heq⟩ | ⟨-, -, heq⟩ | heq :=
    serveInputs_cases cfg s.port (popInputs s)
  · exact absurd hclient hreset
  · rw [popInputs_rValid, hvalid] at hinvalid
    cases hinvalid
  · exact absurd hclient (hnone ((cmdReady_iff _).1 hready).2 c)
  · exact ⟨_, heq, hses, rfl, rfl⟩
  · exact ⟨_, heq, hses, rfl, rfl⟩
  · rw [sessionStep_of_idle cfg s.port (s := popInputs s) hses] at heq
    exact ⟨_, heq, hses, rfl, rfl⟩

end Sys2Proof
end

section
/-! Noninterference (`10_state.md` rules R32, R33; `60_exceptions.md` rules R240, R242): what a step does depends on
nothing but the registers of `AgreeOnRead`, and the states it leads to agree on them again. -/

namespace Sys2Proof

open Machine

/-! ## What acceptance does on a ready port -/

/-- The four things that a command can do on a ready port, as functions of the state. -/
inductive AcceptanceOp : (State → State) → Prop
  | refuse (k : ValidationKind) : AcceptanceOp (raiseValidation k)
  | absent : AcceptanceOp endAbsent
  | start (kind : CommandKind) (id op : Byte) (ps : List Byte) (resp : Bool) (hkind : kind = .raw ∨ kind = .ping) :
      AcceptanceOp (startTransaction kind id op ps resp)
  | startTyped (kind : CommandKind) (d : RegisterDescriptor) (m : ErrorFlags) (id op : Byte) (ps : List Byte)
      (resp : Bool) : AcceptanceOp (fun s => latchTyped d m (startTransaction kind id op ps resp s))

/-- Which of them it is, the command and the parameters say: the state is not looked at but for the port's readiness. -/
def Uniform (f : State → State) : Prop := ∃ g, AcceptanceOp g ∧ ∀ s, s.cmdReady = true → f s = g s

theorem uniform_of_acceptanceOp {f g : State → State} (hg : AcceptanceOp g)
    (h : ∀ {s}, s.cmdReady = true → f s = g s) : Uniform f := ⟨g, hg, fun _ => h⟩

theorem uniform_acceptRaw (op id : Byte) (ps : List Byte) (resp : Bool) : Uniform (acceptRaw op id ps resp) := by
  cases hk : validateRaw id ps with
  | some k => exact uniform_of_acceptanceOp (.refuse k) fun h => acceptRaw_of_invalid h _ _ hk
  | none =>
    have hwf := (validateRaw_none_iff id ps).1 hk
    exact uniform_of_acceptanceOp (.start .raw id op ps resp (.inl rfl)) fun h => acceptRaw_of_wellFormed h _ _ hwf

theorem uniform_acceptPing (id : Byte) : Uniform (acceptPing id) := by
  obtain hid | hid := Nat.lt_or_ge 253 id.toNat
  · exact uniform_of_acceptanceOp .absent fun h => acceptPing_of_gt h hid
  · exact uniform_of_acceptanceOp (.start .ping id _ _ _ (.inr rfl)) fun h => acceptPing_of_le h hid

theorem uniform_acceptReadReg (cfg : Params) (id a : Byte) (m : Option ErrorFlags) :
    Uniform (acceptReadReg cfg id a m) := by
  obtain hid | hid := Nat.lt_or_ge 253 id.toNat
  · exact uniform_of_acceptanceOp (.refuse _) fun h => acceptReadReg_of_gt h cfg a m hid
  · cases ha : lookupRegister cfg a with
    | none => exact uniform_of_acceptanceOp (.refuse _) fun h => acceptReadReg_of_unknown h m hid ha
    | some d => exact uniform_of_acceptanceOp (.startTyped ..) fun h => acceptReadReg_of_some h m hid ha

theorem uniform_acceptWriteReg (cfg : Params) (id a : Byte) (v : Rat) (m : Option ErrorFlags) :
    Uniform (acceptWriteReg cfg id a v m) := by
  by_cases hid : id = 255
  · exact uniform_of_acceptanceOp (.refuse _) fun h => acceptWriteReg_of_illegalId h cfg a v m hid
  · cases ha : lookupRegister cfg a with
    | none => exact uniform_of_acceptanceOp (.refuse _) fun h => acceptWriteReg_of_unknown h v m hid ha
    | some d =>
      cases hacc : d.access with
      | readOnly => exact uniform_of_acceptanceOp (.refuse _) fun h => acceptWriteReg_of_readOnly h v m hid ha hacc
      | readWrite =>
        cases hv : encodeValue d v with
        | error k => exact uniform_of_acceptanceOp (.refuse k) fun h => acceptWriteReg_of_error h v m hid ha hacc hv
        | ok data => exact uniform_of_acceptanceOp (.startTyped ..) fun h => acceptWriteReg_of_ok h v m hid ha hacc hv

theorem acceptCommand_uniform (cfg : Params) (c : Command) :
    ∃ f, Uniform f ∧ ∀ s, acceptCommand cfg c s = .next (f s) := by
  cases c with
  | exec id op ps resp =>
    cases hi : decodeCommand id op ps resp with
    | some i =>
      exact ⟨_, uniform_acceptRaw .., fun s => (acceptCommand_exec_of_decode cfg hi s).trans (exec_eq i s)⟩
    | none =>
      exact ⟨_, uniform_of_acceptanceOp (.refuse .illegalOpcode) fun _ => rfl,
        acceptCommand_exec_of_illegal cfg hi⟩
  | ping id => exact ⟨_, uniform_acceptPing id, fun _ => rfl⟩
  | readReg id a m => exact ⟨_, uniform_acceptReadReg cfg id a m, fun _ => rfl⟩
  | writeReg id a v m => exact ⟨_, uniform_acceptWriteReg cfg id a v m, fun _ => rfl⟩

/-! ## Agreement under the shared operations -/

section Agreement

variable {s t : State}

theorem agree_popInputs (h : AgreeOnRead s t) : AgreeOnRead (popInputs s) (popInputs t) where
  __ := h
  inputs := congrArg List.tail h.inputs
  inFlight hses := { h.inFlight hses with }

theorem port_of_agree (h : AgreeOnRead s t) : s.port = t.port := by
  rw [State.port, State.port, h.inputs]

theorem cmdReady_of_agree (h : AgreeOnRead s t) : s.cmdReady = t.cmdReady := by
  rw [State.cmdReady, State.cmdReady, h.ses, h.linkOpen]

theorem openReady_of_agree (h : AgreeOnRead s t) : s.openReady = t.openReady := by
  rw [State.openReady, State.openReady, h.ses, h.linkOpen]

theorem closeReady_of_agree (h : AgreeOnRead s t) : s.closeReady = t.closeReady := by
  rw [State.closeReady, State.closeReady, h.ses, h.linkOpen]

theorem agree_resetBlock (h : AgreeOnRead s t) : AgreeOnRead (resetBlock s) (resetBlock t) where
  ses := rfl
  linkOpen := rfl
  rValid := rfl
  inputs := h.inputs
  wire := h.wire
  typedResult := rfl
  transaction := rfl
  inFlight hses := absurd rfl hses
  reception hses := by cases hses

theorem agree_raiseValidation (h : AgreeOnRead s t) (k : ValidationKind) :
    AgreeOnRead (raiseValidation k s) (raiseValidation k t) where
  __ := h
  rValid := rfl
  typedResult := rfl
  transaction := rfl
  inFlight hses := { h.inFlight hses with }

theorem agree_endAbsent (h : AgreeOnRead s t) : AgreeOnRead (endAbsent s) (endAbsent t) where
  __ := h
  rValid := rfl
  typedResult := rfl
  transaction := rfl
  inFlight hses := { h.inFlight hses with }

theorem agree_openLink (h : AgreeOnRead s t) (n : Nat) (b : Bool) :
    AgreeOnRead (openLink n b s) (openLink n b t) where
  __ := h
  linkOpen := rfl
  wire := congrArg (· ++ [TransportCall.openAt n]) h.wire
  inFlight hses := { h.inFlight hses with }

theorem agree_closeLink (h : AgreeOnRead s t) : AgreeOnRead (closeLink s) (closeLink t) where
  __ := h
  linkOpen := rfl
  wire := congrArg (· ++ [TransportCall.close]) h.wire
  inFlight hses := { h.inFlight hses with }

/-- Acceptance writes every register that the transaction will read but the latch, which the raw and the ping form do
not read (rules R24, R131). -/
theorem agree_startTransaction (h : AgreeOnRead s t) {kind : CommandKind} (id op : Byte) (ps : List Byte)
    (resp : Bool) (hlatch : kind = .readReg ∨ kind = .writeReg → s.tDesc = t.tDesc ∧ s.tFmask = t.tFmask) :
    AgreeOnRead (startTransaction kind id op ps resp s) (startTransaction kind id op ps resp t) where
  __ := h
  ses := rfl
  rValid := rfl
  typedResult := rfl
  transaction := rfl
  inFlight _ := { cId := rfl, cExpect := rfl, txb := rfl, txI := rfl, tKind := rfl, latch := hlatch }
  reception hses := by cases hses

/-- The typed latch is written before the transaction starts or after, all the same. -/
theorem latchTyped_startTransaction (kind : CommandKind) (d : RegisterDescriptor) (m : ErrorFlags) (id op : Byte)
    (ps : List Byte) (resp : Bool) (s : State) :
    latchTyped d m (startTransaction kind id op ps resp s) =
      startTransaction kind id op ps resp { s with tDesc := d, tFmask := m } := rfl

theorem agree_latched (h : AgreeOnRead s t) (d : RegisterDescriptor) (m : ErrorFlags) :
    AgreeOnRead { s with tDesc := d, tFmask := m } { t with tDesc := d, tFmask := m } where
  __ := h
  inFlight hses := { h.inFlight hses with latch := fun _ => ⟨rfl, rfl⟩ }

theorem agree_acceptanceOp (h : AgreeOnRead s t) {f : State → State} (hf : AcceptanceOp f) :
    AgreeOnRead (f s) (f t) := by
  cases hf with
  | refuse k => exact agree_raiseValidation h k
  | absent => exact agree_endAbsent h
  | start kind id op ps resp hkind =>
    refine agree_startTransaction h id op ps resp fun htyped => ?_
    obtain rfl | rfl := hkind <;> simp at htyped
  | startTyped kind d m id op ps resp =>
    simp only [latchTyped_startTransaction]
    exact agree_startTransaction (agree_latched h d m) id op ps resp fun _ => ⟨rfl, rfl⟩

/-! ## Agreement under the session's step -/

/-- Only the typed accesses look at the latch (rules R171 to R173, R190). -/
theorem interpretResult_of_sameInFlight (h : SameInFlight s t) (res : TransactionResult) :
    interpretResult s.tKind s.tDesc s.tFmask res = interpretResult t.tKind t.tDesc t.tFmask res := by
  rw [← h.tKind]
  cases hkind : s.tKind with
  | raw => rfl
  | ping => rfl
  | readReg =>
    obtain ⟨hdesc, hmask⟩ := h.latch (.inl hkind)
    rw [hdesc, hmask]
  | writeReg =>
    obtain ⟨hdesc, hmask⟩ := h.latch (.inr hkind)
    rw [hdesc, hmask]

theorem agree_endTransaction (h : AgreeOnRead s t) (hflight : SameInFlight s t) (res : TransactionResult) :
    AgreeOnRead (endTransaction res s) (endTransaction res t) where
  __ := h
  ses := rfl
  rValid := rfl
  typedResult := by
    rw [readTypedResult_endTransaction, readTypedResult_endTransaction, interpretResult_of_sameInFlight hflight]
  transaction := rfl
  inFlight hses := absurd rfl hses
  reception hses := by cases hses

theorem agree_transmitByte (h : AgreeOnRead s t) (hses : s.ses = .send) :
    AgreeOnRead (transmitByte s) (transmitByte t) := by
  have hflight := h.inFlight (by simp [hses])
  exact
    { h with
      wire := by rw [transmitByte_wire, transmitByte_wire, h.wire, hflight.txb, hflight.txI]
      inFlight := fun _ => { hflight with txI := congrArg (· + 1) hflight.txI }
      reception := fun hrecv => by rw [transmitByte_ses, hses] at hrecv; cases hrecv }

theorem agree_startReception (h : AgreeOnRead s t) (hflight : SameInFlight s t) :
    AgreeOnRead (startReception s) (startReception t) where
  __ := h
  ses := rfl
  inFlight _ := { hflight with }
  reception _ := ⟨rfl, rfl⟩

theorem agree_sendStep (h : AgreeOnRead s t) (hses : s.ses = .send) (p : PortInputs) :
    AgreeOnRead (sendStep p s) (sendStep p t) := by
  have hflight := h.inFlight (by simp [hses])
  have hlen : s.txLen = t.txLen := congrArg List.length hflight.txb
  obtain ⟨hlt, hp, heq⟩ | ⟨hlt, hp, heq⟩ | ⟨hsent, he, heq⟩ | ⟨hsent, he, heq⟩ := sendStep_cases p s <;> rw [heq]
  · rw [hlen, hflight.txI] at hlt
    rw [sendStep_of_ready hlt hp]
    exact agree_transmitByte h hses
  · rw [hlen, hflight.txI] at hlt
    rwa [sendStep_of_stall hlt hp]
  · rw [hlen, hflight.txI] at hsent
    rw [sendStep_of_awaited hsent (hflight.cExpect ▸ he)]
    exact agree_startReception h hflight
  · rw [hlen, hflight.txI] at hsent
    rw [sendStep_of_unawaited hsent (hflight.cExpect ▸ he)]
    exact agree_endTransaction h hflight _

theorem agree_received (h : AgreeOnRead s t) (hrxb : s.rxb = t.rxb) (p : PortInputs) {j k : Nat} (hjk : j = k) :
    AgreeOnRead { received p s with timer := j } { received p t with timer := k } where
  __ := h
  inFlight hses := { h.inFlight hses with }
  reception _ := ⟨congrArg (· ++ p.rx.toList) hrxb, hjk⟩

theorem agree_recvStep (cfg : Params) (h : AgreeOnRead s t) (hses : s.ses = .recv) (p : PortInputs) :
    AgreeOnRead (recvStep cfg p s) (recvStep cfg p t) := by
  have hflight := h.inFlight (by simp [hses])
  have hses' : t.ses = .recv := h.ses ▸ hses
  obtain ⟨hrxb, htimer⟩ := h.reception hses
  have hcomplete : completes p s = completes p t := by rw [completes, completes, hrxb]
  have hcount : s.timer + 1 = t.timer + 1 := congrArg (· + 1) htimer
  obtain ⟨hc, heq⟩ | ⟨hc, ht, heq⟩ | ⟨hc, ht, hlt, heq⟩ | ⟨hc, ht, hge, heq⟩ := recvStep_cases cfg p hses <;>
    rw [heq] <;> rw [hcomplete] at hc
  · rw [recvStep_of_completes cfg hc, hrxb, hflight.cId]
    exact agree_endTransaction (agree_received h hrxb p htimer) { hflight with } _
  · rw [recvStep_of_no_tick cfg hc ht]
    exact agree_received h hrxb p htimer
  · rw [recvStep_of_count cfg hses' hc ht (hcount ▸ hlt)]
    exact agree_received h hrxb p hcount
  · rw [recvStep_of_expiry cfg hses' hc ht (hcount ▸ hge), hrxb, hflight.cId]
    exact agree_endTransaction (agree_received h hrxb p hcount) { hflight with } _

theorem agree_sessionStep (cfg : Params) (h : AgreeOnRead s t) (p : PortInputs) :
    AgreeOnRead (sessionStep cfg p s) (sessionStep cfg p t) := by
  cases hses : s.ses with
  | idle =>
    rw [sessionStep_of_idle cfg p hses, sessionStep_of_idle cfg p (h.ses ▸ hses)]
    exact h
  | send =>
    have hses' : t.ses = .send := h.ses ▸ hses
    simpa only [sessionStep, hses, hses'] using agree_sendStep h hses p
  | recv =>
    have hses' : t.ses = .recv := h.ses ▸ hses
    simpa only [sessionStep, hses, hses'] using agree_recvStep cfg h hses p

end Agreement

/-- The block served with the same inputs in two states that agree. -/
theorem agree_serveInputs (cfg : Params) {s t : State} (h : AgreeOnRead s t) (p : PortInputs) :
    (∃ s' t', serveInputs cfg p s = .next s' ∧ serveInputs cfg p t = .next t' ∧ AgreeOnRead s' t') ∨
    (serveInputs cfg p s = .fault .resultNotReadable ∧ serveInputs cfg p t = .fault .resultNotReadable) := by
  have hsession := agree_sessionStep cfg h p
  unfold serveInputs
  cases p.client with
  | quiet => exact .inl ⟨_, _, rfl, rfl, hsession⟩
  | present c =>
    dsimp only
    rw [← cmdReady_of_agree h]
    cases hready : s.cmdReady with
    | false => exact .inl ⟨_, _, rfl, rfl, hsession⟩
    | true =>
      obtain ⟨f, ⟨g, hg, hfg⟩, hf⟩ := acceptCommand_uniform cfg c
      refine .inl ⟨g s, g t, ?_, ?_, agree_acceptanceOp h hg⟩
      · rw [if_pos rfl, hf, hfg s hready]
      · rw [if_pos rfl, hf, hfg t (cmdReady_of_agree h ▸ hready)]
  | openReq n =>
    dsimp only
    rw [← openReady_of_agree h]
    cases s.openReady with
    | false => exact .inl ⟨_, _, rfl, rfl, hsession⟩
    | true => exact .inl ⟨_, _, rfl, rfl, agree_openLink h n _⟩
  | closeReq =>
    dsimp only
    rw [← closeReady_of_agree h]
    cases s.closeReady with
    | false => exact .inl ⟨_, _, rfl, rfl, hsession⟩
    | true => exact .inl ⟨_, _, rfl, rfl, agree_closeLink h⟩
  | readResult =>
    dsimp only
    rw [← h.rValid]
    cases s.rValid with
    | false => exact .inr ⟨rfl, rfl⟩
    | true => exact .inl ⟨_, _, rfl, rfl, hsession⟩
  | reset => exact .inl ⟨_, _, rfl, rfl, agree_resetBlock h⟩

/-- Settles O52: states that agree have the same port inputs, and every operation of a step keeps the agreement. -/
theorem staleRegistersAreNeverRead : Obligations.StaleRegistersAreNeverRead := by
  intro cfg s t h
  rw [stepWith, stepWith, ← port_of_agree h]
  exact agree_serveInputs cfg (agree_popInputs h) s.port

end Sys2Proof
end

section
/-! Runs (`41_transport_session.md` rules R144, R270): the state machine on a script of port inputs does what the
blocking summary of a transaction says. -/

namespace Sys2Proof

open Machine

/-! ## Composing runs -/

theorem runWith_succ (cfg : Params) (n : Nat) {s t : State} (h : stepWith cfg s = .next t) :
    runWith cfg (n + 1) s = runWith cfg n t := by
  simp only [runWith, h]

theorem runWith_add (cfg : Params) (m n : Nat) {s t : State} (h : runWith cfg m s = .next t) :
    runWith cfg (m + n) s = runWith cfg n t := by
  induction m generalizing s with
  | zero =>
    cases h
    rw [Nat.zero_add]
  | succ m ih =>
    rw [Nat.add_right_comm]
    cases hstep : stepWith cfg s with
    | next u =>
      rw [runWith_succ cfg m hstep] at h
      rw [runWith_succ cfg (m + n) hstep, ih h]
    | fault f => simp [runWith, hstep] at h
    | refused r => simp [runWith, hstep] at h

/-! ## The end of a transaction -/

/-- `t` is the state in which the transaction that `s` runs has ended with `res`. -/
structure EndsWith (s : State) (res : TransactionResult) (t : State) : Prop where
  ses : t.ses = .idle
  linkOpen : t.linkOpen = s.linkOpen
  transaction : readTransaction t = some res
  typedResult : readTypedResult t = some (interpretResult s.tKind s.tDesc s.tFmask res)
  wire : t.wire = s.wire

/-- A run that ends within `k` steps. -/
def EndsWithin (cfg : Params) (k : Nat) (s : State) (res : TransactionResult) : Prop :=
  ∃ n t, n ≤ k ∧ runWith cfg n s = .next t ∧ EndsWith s res t

/-- A step that changes nothing of what the end of the transaction keeps costs one of the steps. -/
theorem endsWithin_of_step {cfg : Params} {k : Nat} {s u : State} {res : TransactionResult}
    (hstep : stepWith cfg s = .next u) (hlink : u.linkOpen = s.linkOpen) (hwire : u.wire = s.wire)
    (hkind : u.tKind = s.tKind) (hdesc : u.tDesc = s.tDesc) (hmask : u.tFmask = s.tFmask)
    (h : EndsWithin cfg k u res) : EndsWithin cfg (k + 1) s res := by
  obtain ⟨n, t, hn, hrun, hses, hl, htrans, htyped, hw⟩ := h
  refine ⟨n + 1, t, Nat.succ_le_succ hn, (runWith_succ cfg n hstep).trans hrun, hses, hl.trans hlink, htrans, ?_,
    hw.trans hwire⟩
  rw [htyped, hkind, hdesc, hmask]

theorem endsWithin_one {cfg : Params} {s u : State} {res : TransactionResult} (k : Nat)
    (hstep : stepWith cfg s = .next u) (h : EndsWith s res u) : EndsWithin cfg (k + 1) s res :=
  ⟨1, u, Nat.le_add_left 1 k, runWith_succ cfg 0 hstep, h⟩

/-! ## RECV -/

/-- The receive loop of the summary takes the byte, then the tick, as the step does (rules R140, R144). -/
theorem collect_cons (cfg : Params) (s : State) (p : PortInputs) (ps : List PortInputs) :
    collect cfg s.cId s.timer s.rxb (p :: ps) =
      if completes p s = true then some (decodeResponse cfg.errBit (s.rxb ++ p.rx.toList) s.cId)
      else if p.tick = false then collect cfg s.cId s.timer (s.rxb ++ p.rx.toList) ps
      else if s.timer + 1 < cfg.timeoutTicks then collect cfg s.cId (s.timer + 1) (s.rxb ++ p.rx.toList) ps
      else some (timeoutResult cfg (s.rxb ++ p.rx.toList) s.cId) := by
  simp only [collect, completes, Bool.and_eq_true]

/-- Along a script on which the receive loop ends, the state machine ends with the loop's result, in a step an entry at
most. -/
theorem endsWithin_of_collect (cfg : Params) (ps rest : List PortInputs) (s : State) (res : TransactionResult)
    (hses : s.ses = .recv) (hin : s.inputs = ps ++ rest) (hdefers : ∀ p ∈ ps, clientDefers p = true)
    (hres : collect cfg s.cId s.timer s.rxb ps = some res) : EndsWithin cfg ps.length s res := by
  induction ps generalizing s with
  | nil => cases hres
  | cons p ps ih =>
    obtain ⟨hdefer, hdefers'⟩ := List.forall_mem_cons.1 hdefers
    have hport : s.port = p := port_of_inputs hin
    have hstep : stepWith cfg s = .next (recvStep cfg p (popInputs s)) := by
      rw [stepWith_recv cfg hses (by rwa [hport]), hport]
    have htail : (popInputs s).inputs = ps ++ rest := congrArg List.tail hin
    replace hres : collect cfg (popInputs s).cId (popInputs s).timer (popInputs s).rxb (p :: ps) = some res := hres
    rw [collect_cons] at hres
    obtain ⟨hc, heq⟩ | ⟨hc, ht, heq⟩ | ⟨hc, ht, hlt, heq⟩ | ⟨hc, ht, hge, heq⟩ :=
      recvStep_cases cfg (s := popInputs s) p hses <;> rw [heq] at hstep
    · rw [if_pos hc] at hres
      cases hres
      exact endsWithin_one _ hstep ⟨rfl, rfl, rfl, rfl, rfl⟩
    · rw [if_neg (by simp [hc]), if_pos ht] at hres
      exact endsWithin_of_step hstep rfl rfl rfl rfl rfl (ih _ hses htail hdefers' hres)
    · rw [if_neg (by simp [hc]), if_neg (by simp [ht]), if_pos hlt] at hres
      exact endsWithin_of_step hstep rfl rfl rfl rfl rfl (ih _ hses htail hdefers' hres)
    · rw [if_neg (by simp [hc]), if_neg (by simp [ht]), if_neg (Nat.not_lt.2 hge)] at hres
      cases hres
      exact endsWithin_one _ hstep ⟨rfl, rfl, rfl, rfl, rfl⟩

/-- The receive loop ends on every script with as many ticks as are left. -/
theorem exists_collect_eq_some (cfg : Params) (id : Byte) (ticks : Nat) (rx : List Byte) (ps : List PortInputs)
    (hlt : ticks < cfg.timeoutTicks) (hticks : cfg.timeoutTicks ≤ ticks + ps.countP (fun p => p.tick)) :
    ∃ res, collect cfg id ticks rx ps = some res := by
  induction ps generalizing ticks rx with
  | nil => simp at hticks; omega
  | cons p ps ih =>
    rw [collect]
    split
    · exact ⟨_, rfl⟩
    · split
      · rename_i ht
        exact ih ticks _ hlt (by simpa [ht] using hticks)
      · rename_i ht
        rw [List.countP_cons_of_pos (by simpa using ht)] at hticks
        split
        · exact ih (ticks + 1) _ ‹_› (by omega)
        · exact ⟨_, rfl⟩

/-- Settles O29: the receive loop ends on the script, and the state machine with it. -/
theorem receptionEndsByItsDeadline : Obligations.ReceptionEndsByItsDeadline := by
  intro cfg s rxs rest hses hlt hin hdefers hticks
  obtain ⟨res, hres⟩ := exists_collect_eq_some cfg s.cId s.timer s.rxb rxs hlt hticks
  obtain ⟨n, t, hn, hrun, hend⟩ := endsWithin_of_collect cfg rxs rest s res hses hin hdefers hres
  exact ⟨n, t, hn, hrun, hend.ses, by rw [hend.transaction]; rfl⟩

/-! ## SEND -/

/-- The state after the next `k` bytes of the request have gone out, with the inputs `ins` to come. -/
def sentBytes (k : Nat) (ins : List PortInputs) (s : State) : State :=
  { s with
    wire := s.wire ++ ((s.txb.drop s.txI).take k).map .write, txI := s.txI + k, inputs := ins }

/-- One byte more. -/
theorem sentBytes_transmitByte {s : State} (hlt : s.txI < s.txLen) (k : Nat) (ins : List PortInputs) :
    sentBytes k ins (transmitByte s) = sentBytes (k + 1) ins s := by
  have hdrop : s.txb.drop s.txI = byteAt s.txb s.txI :: s.txb.drop (s.txI + 1) := by
    rw [List.drop_eq_getElem_cons hlt, byteAt, List.getD_eq_getElem _ _ hlt]
  simp [sentBytes, transmitByte, hdrop, Nat.add_assoc, Nat.add_comm 1 k]

/-- Along a script whose ready steps are not more than the bytes left, and which ends in one, each ready step sends one
byte (rule R132). -/
theorem runWith_send (cfg : Params) (txs rest : List PortInputs) (last : PortInputs) (s : State) (hses : s.ses = .send)
    (hin : s.inputs = txs ++ last :: rest) (hdefers : ∀ p ∈ txs ++ [last], clientDefers p = true)
    (hlast : last.txReady = true) (hlt : s.txI + txs.countP (fun p => p.txReady) < s.txLen) :
    runWith cfg (txs.length + 1) s = .next (sentBytes (txs.countP (fun p => p.txReady) + 1) rest s) := by
  have hlt' : (popInputs s).txI < (popInputs s).txLen := (Nat.le_add_right ..).trans_lt hlt
  induction txs generalizing s with
  | nil =>
    have hport : s.port = last := port_of_inputs hin
    have htail : (popInputs s).inputs = rest := congrArg List.tail hin
    have hstep : stepWith cfg s = .next (transmitByte (popInputs s)) := by
      rw [stepWith_send cfg hses (by rw [hport]; exact hdefers last (by simp)), hport, sendStep_of_ready hlt' hlast]
    rw [List.length_nil, List.countP_nil, runWith_succ cfg 0 hstep, ← sentBytes_transmitByte (s := s) hlt']
    simp [runWith, sentBytes, transmitByte, ← htail]
  | cons p ps ih =>
    obtain ⟨hdefer, hdefers'⟩ := List.forall_mem_cons.1 hdefers
    have hport : s.port = p := port_of_inputs hin
    have htail : (popInputs s).inputs = ps ++ last :: rest := congrArg List.tail hin
    have hstep : stepWith cfg s = .next (sendStep p (popInputs s)) := by
      rw [stepWith_send cfg hses (by rwa [hport]), hport]
    cases hp : p.txReady with
    | true =>
      rw [List.countP_cons_of_pos (by exact hp)] at hlt ⊢
      have hnext : s.txI + 1 + ps.countP (fun p => p.txReady) < s.txLen := by omega
      rw [sendStep_of_ready hlt' hp] at hstep
      rw [List.length_cons, runWith_succ cfg _ hstep,
        ih (transmitByte (popInputs s)) hses htail hdefers' hnext ((Nat.le_add_right ..).trans_lt hnext),
        sentBytes_transmitByte hlt']
      rfl
    | false =>
      rw [List.countP_cons_of_neg (by simp [hp])] at hlt ⊢
      rw [sendStep_of_stall hlt' hp] at hstep
      rw [List.length_cons, runWith_succ cfg _ hstep, ih (popInputs s) hses htail hdefers' hlt hlt']
      rfl

/-- Once the request is out, the transaction ends as the summary says (rules R133, R134, R144). -/
theorem endsWithin_of_sent (cfg : Params) (rxs rest : List PortInputs) (gap : PortInputs) (s : State)
    (res : TransactionResult) (hses : s.ses = .send) (hsent : s.txLen ≤ s.txI)
    (hin : s.inputs = gap :: (rxs ++ rest)) (hdefers : ∀ p ∈ gap :: rxs, clientDefers p = true)
    (hres : (execute cfg s.cId s.cOp s.cParam s.cExpect rxs).2 = some res) :
    EndsWithin cfg (rxs.length + 1) s res := by
  obtain ⟨hdefer, hdefers'⟩ := List.forall_mem_cons.1 hdefers
  have hport : s.port = gap := port_of_inputs hin
  have htail : (popInputs s).inputs = rxs ++ rest := congrArg List.tail hin
  have hstep := stepWith_send cfg hses (by rwa [hport])
  cases he : s.cExpect with
  | false =>
    rw [sendStep_of_unawaited (s := popInputs s) hsent he] at hstep
    simp only [execute, he, if_true, Option.some.injEq] at hres
    rw [← hres]
    exact endsWithin_one _ hstep ⟨rfl, rfl, rfl, rfl, rfl⟩
  | true =>
    rw [sendStep_of_awaited (s := popInputs s) hsent he] at hstep
    simp only [execute, he, Bool.true_eq_false, if_false] at hres
    exact endsWithin_of_step hstep rfl rfl rfl rfl rfl
      (endsWithin_of_collect cfg rxs rest (startReception (popInputs s)) res rfl htail hdefers' hres)

/-- Settles O27: the request goes out at the last ready step, and the rest is the receive loop. -/
theorem transactionRunsAsExecute : Obligations.TransactionRunsAsExecute := by
  intro cfg s txs rxs rest last gap res hses hstart hreq hin hdefers hcount hlast hres
  have hsend := runWith_send cfg txs (gap :: (rxs ++ rest)) last s hses hin
    (fun p hp => hdefers p (by simp at hp ⊢; tauto)) hlast (by omega)
  rw [hcount] at hsend
  have hend := endsWithin_of_sent cfg rxs rest gap (sentBytes s.txLen (gap :: (rxs ++ rest)) s) res hses
    (Nat.le_add_left ..) rfl (fun p hp => hdefers p (by simp at hp ⊢; tauto)) hres
  obtain ⟨n, t, hn, hrun, hidle, hlink, htrans, htyped, hwire⟩ := hend
  refine ⟨txs.length + 1 + n, t, by omega, (runWith_add cfg _ n hsend).trans hrun, hidle, hlink, htrans, htyped, ?_⟩
  rw [hwire, execute, ← hreq]
  simp [sentBytes, hstart, State.txLen]

/-- Settles O28: the first step is acceptance, and from the accepted state the transaction runs as O27 says. -/
theorem rawCommandRunsToItsResult : Obligations.RawCommandRunsToItsResult := by
  intro cfg i s first last gap txs rxs rest res hwf hses hlink hclient hin hdefers hcount hlast hres
  rw [wellFormed_eq] at hwf
  have hexec : exec i (popInputs s) = .next (startTransaction .raw i.id i.opcode i.params i.resp (popInputs s)) := by
    rw [exec_eq, acceptRaw_of_wellFormed (cmdReady_popInputs hses hlink) _ _ hwf]
  have hport : s.port = first := port_of_inputs hin
  have hstep : stepWith cfg s = exec i (popInputs s) := by
    rw [stepWith_present cfg hses hlink (by rwa [hport]), acceptCommand_exec_of_decode cfg (decodeCommand_fields i)]
  refine ⟨_, hexec, hstep.trans hexec, ?_⟩
  obtain ⟨n, t, hn, hrun, hidle, hopen, htrans, htyped, hwire⟩ :=
    transactionRunsAsExecute cfg (startTransaction .raw i.id i.opcode i.params i.resp (popInputs s))
      txs rxs rest last gap res rfl rfl rfl (congrArg List.tail hin) hdefers
      (by rw [hcount, State.txLen, startTransaction_txb, length_encodeRequest]) hlast
      (by rw [startTransaction_cExpect, effectiveExpect_eq]; exact hres)
  exact ⟨n, t, hn, hrun, hidle, hopen.trans hlink, htrans, htyped, hwire⟩

end Sys2Proof
end

section
/-! The client sequences (`44_client_sequences.md` rules R210 to R217) as programs, and a client that drives the
block. -/

namespace Sys2Proof

open Machine

/-! ## Programs along their turns -/

section Program

variable {σ : Type} (prog : ClientProgram σ)

/-- A turn in which a command is issued. -/
theorem run_cons_of_action {c : σ} {t : ClientTurn} {a : Nat × Command}
    (h : prog.action (prog.sample c t.cancel) = some a) (ts : List ClientTurn) :
    prog.run c (t :: ts) = prog.run (prog.resume (prog.sample c t.cancel) t.toClientView) ts := by
  simp only [ClientProgram.run, h]

theorem issued_cons_of_action {c : σ} {t : ClientTurn} {a : Nat × Command}
    (h : prog.action (prog.sample c t.cancel) = some a) (ts : List ClientTurn) :
    prog.issued c (t :: ts) = a.2 :: prog.issued (prog.resume (prog.sample c t.cancel) t.toClientView) ts := by
  simp only [ClientProgram.issued, h]

/-- A turn that finds the program ended. -/
theorem run_cons_of_none {c : σ} {t : ClientTurn} (h : prog.action (prog.sample c t.cancel) = none)
    (ts : List ClientTurn) : prog.run c (t :: ts) = prog.sample c t.cancel := by
  simp only [ClientProgram.run, h]

theorem issued_cons_of_none {c : σ} {t : ClientTurn} (h : prog.action (prog.sample c t.cancel) = none)
    (ts : List ClientTurn) : prog.issued c (t :: ts) = [] := by
  simp only [ClientProgram.issued, h]

/-- The cancellation signal is not given, or does not interrupt the program where it stands. -/
theorem sample_of_uncancelled {b : Bool} (h : b = false) (c : σ) : prog.sample c b = c := by
  rw [h]
  rfl

theorem sample_of_fixed {c : σ} (h : prog.cancelled c = c) (b : Bool) : prog.sample c b = c := by
  rw [ClientProgram.sample, h, ite_self]

theorem run_cons_of_sample {c : σ} {t : ClientTurn} {a : Nat × Command} (hsample : prog.sample c t.cancel = c)
    (ha : prog.action c = some a) (ts : List ClientTurn) :
    prog.run c (t :: ts) = prog.run (prog.resume c t.toClientView) ts := by
  rw [run_cons_of_action prog (by rw [hsample]; exact ha), hsample]

theorem issued_cons_of_sample {c : σ} {t : ClientTurn} {a : Nat × Command} (hsample : prog.sample c t.cancel = c)
    (ha : prog.action c = some a) (ts : List ClientTurn) :
    prog.issued c (t :: ts) = a.2 :: prog.issued (prog.resume c t.toClientView) ts := by
  rw [issued_cons_of_action prog (by rw [hsample]; exact ha), hsample]

/-- What the program keeps is kept by looking for the signal. -/
theorem sample_induction {P : σ → Prop} (hcancel : ∀ c, P c → P (prog.cancelled c)) {c : σ} (hc : P c) (b : Bool) :
    P (prog.sample c b) := by
  unfold ClientProgram.sample
  split
  · exact hcancel c hc
  · exact hc

/-- What cancellation and the end of a command keep, every run keeps. -/
theorem run_induction (P : σ → Prop) (hcancel : ∀ c, P c → P (prog.cancelled c))
    (hresume : ∀ c v, P c → P (prog.resume c v)) (ts : List ClientTurn) (c : σ) (hc : P c) : P (prog.run c ts) := by
  induction ts generalizing c with
  | nil => exact hc
  | cons t ts ih =>
    have hsample := sample_induction prog hcancel hc t.cancel
    cases ha : prog.action (prog.sample c t.cancel) with
    | none => rwa [run_cons_of_none prog ha]
    | some a =>
      rw [run_cons_of_action prog ha]
      exact ih _ (hresume _ _ hsample)

/-- What holds of every action of the states that cancellation and the end of a command lead to, holds of every command
issued. -/
theorem issued_induction (P : σ → Prop) (Q : Command → Prop) (hcancel : ∀ c, P c → P (prog.cancelled c))
    (hresume : ∀ c v, P c → P (prog.resume c v)) (haction : ∀ c a, P c → prog.action c = some a → Q a.2)
    (ts : List ClientTurn) (c : σ) (hc : P c) : ∀ x ∈ prog.issued c ts, Q x := by
  induction ts generalizing c with
  | nil => simp [ClientProgram.issued]
  | cons t ts ih =>
    have hsample := sample_induction prog hcancel hc t.cancel
    cases ha : prog.action (prog.sample c t.cancel) with
    | none => simp [issued_cons_of_none prog ha]
    | some a =>
      rw [issued_cons_of_action prog ha]
      exact List.forall_mem_cons.2 ⟨haction _ _ hsample ha, ih _ (hresume _ _ hsample)⟩

end Program

/-! ## Bus Scanner (rule R211) -/

/-- A scan with `n` IDs left, the turns answering for each of them. -/
theorem scan_run (present : Nat → Bool) (n lo hi : Nat) (found : List Nat) (ts : List ClientTurn)
    (hn : lo + n = hi + 1)
    (hts : ts.map (fun t => t.result) = (List.range' lo n).map (fun id => .present (present id))) :
    (scanProgram.run { next := lo, hi := hi, found := found } ts).found =
        found ++ (List.range' lo n).filter present ∧
      scanProgram.issued { next := lo, hi := hi, found := found } ts =
        (List.range' lo n).map (fun id => Command.ping (BitVec.ofNat 8 id)) := by
  induction n generalizing lo found ts with
  | zero =>
    obtain rfl : ts = [] := by simpa using hts
    simp [ClientProgram.run, ClientProgram.issued]
  | succ n ih =>
    cases ts with
    | nil => simp [List.range'_succ] at hts
    | cons t ts =>
      rw [List.range'_succ, List.map_cons, List.map_cons, List.cons.injEq] at hts
      obtain ⟨ht, hts⟩ := hts
      have hsample : scanProgram.sample { next := lo, hi := hi, found := found } t.cancel =
          { next := lo, hi := hi, found := found } := sample_of_fixed scanProgram rfl _
      have ha : scanProgram.action { next := lo, hi := hi, found := found } =
          some (0, .ping (BitVec.ofNat 8 lo)) := if_pos (show lo ≤ hi by omega)
      rw [run_cons_of_sample scanProgram hsample ha, issued_cons_of_sample scanProgram hsample ha, List.range'_succ]
      have hresume : scanProgram.resume { next := lo, hi := hi, found := found } t.toClientView =
          { next := lo + 1, hi := hi, found := found ++ [lo].filter present } := by
        cases hp : present lo <;> simp [scanProgram, ht, hp]
      obtain ⟨hrun, hissued⟩ := ih (lo + 1) (found ++ [lo].filter present) ts (by omega) hts
      rw [hresume, hrun, hissued]
      refine ⟨?_, rfl⟩
      rw [List.append_assoc, ← List.filter_append, List.singleton_append]

/-- Settles O53: the scan of the whole range, with nothing found yet. -/
theorem scanFindsExactlyThePresent : Obligations.ScanFindsExactlyThePresent := by
  refine ⟨rfl, fun present lo hi ts hle hhi hts => ?_⟩
  have hstart : scanStart lo hi = { next := lo, hi := hi, found := [] } := by
    rw [scanStart, Nat.min_eq_left hhi]
  rw [hstart]
  exact scan_run present (hi + 1 - lo) lo hi [] ts (by omega) hts

/-! ## Motion Controller (rules R212, R213) -/

section Move

variable (p : ClientParams) (m : MoveRequest)

theorem issued_ended (o : MoveOutcome) (ts : List ClientTurn) : (moveProgram p m).issued (.ended o) ts = [] := by
  cases ts with
  | nil => rfl
  | cons t ts =>
    refine issued_cons_of_none _ ?_ ts
    rw [sample_of_fixed _ rfl]
    rfl

/-- The states of `MoveTo` from the first poll on. -/
inductive Polls : MoveState → Prop
  | polling (n : Nat) : Polls (.polling n)
  | ended (o : MoveOutcome) : Polls (.ended o)

theorem polls_movePolled (n : Nat) (x : Rat) (v : ClientView) : Polls (movePolled p n x v) := by
  unfold movePolled
  split
  · exact .ended _
  · split
    · exact .ended _
    · exact .polling _

theorem polls_moveResume {c : MoveState} (v : ClientView) (h : Polls c) : Polls (moveResume p m c v) := by
  cases h with
  | polling n =>
    simp only [moveResume]
    split
    · exact polls_movePolled ..
    · exact .ended _
  | ended o => exact .ended o

theorem polls_moveCancelled {c : MoveState} (h : Polls c) : Polls (moveCancelled c) := by
  cases h with
  | polling n => exact .ended _
  | ended o => exact .ended o

theorem issued_polls {c : MoveState} (h : Polls c) (ts : List ClientTurn) :
    ∀ x ∈ (moveProgram p m).issued c ts, x = .readReg m.id p.aMoving none := by
  refine issued_induction (moveProgram p m) Polls _ (fun _ => polls_moveCancelled)
    (fun _ v => polls_moveResume p m v) (fun c a hc ha => ?_) ts c h
  cases hc with
  | polling n =>
    cases ha
    rfl
  | ended o => cases ha

/-! ### The three writes -/

/-- Where `MoveTo` goes when its three writes ended `Ok`. -/
def afterWrites : MoveState := if m.wait = false then .ended .ok else .polling 0

/-- `next` follows `c`, which issues `w`, unless `w` fails. -/
structure Writes (c : MoveState) (w : Command) (next : MoveState) : Prop where
  cancelled : moveCancelled c = c
  action : moveAction p m c = some (0, w)
  resume : ∀ v : ClientView, moveResume p m c v = if v.result = .ok then next else .ended (.failed v.result)

theorem writes_stageAcceleration :
    Writes p m .stageAcceleration (.writeReg m.id p.aAcc m.acceleration none) .stageSpeed :=
  ⟨rfl, rfl, fun _ => rfl⟩

theorem writes_stageSpeed : Writes p m .stageSpeed (.writeReg m.id p.aSpeed m.speed none) .issuePosition :=
  ⟨rfl, rfl, fun _ => rfl⟩

theorem writes_issuePosition : Writes p m .issuePosition (.writeReg m.id p.aGoal m.position none) (afterWrites m) :=
  ⟨rfl, rfl, fun v => by simp only [moveResume, ne_eq, ite_not, afterWrites]⟩

variable {p m} {c next : MoveState} {w : Command} (h : Writes p m c w next)
include h

theorem issued_of_writes (t : ClientTurn) (ts : List ClientTurn) :
    (moveProgram p m).issued c (t :: ts) = w :: if t.result = .ok then (moveProgram p m).issued next ts else [] := by
  have hresume : (moveProgram p m).resume c t.toClientView = _ := h.resume t.toClientView
  rw [issued_cons_of_sample _ (sample_of_fixed (moveProgram p m) h.cancelled _) h.action, hresume]
  split
  · rfl
  · rw [issued_ended]

theorem run_of_writes {t : ClientTurn} (hok : t.result = .ok) (ts : List ClientTurn) :
    (moveProgram p m).run c (t :: ts) = (moveProgram p m).run next ts := by
  have hresume : (moveProgram p m).resume c t.toClientView = _ := h.resume t.toClientView
  rw [run_cons_of_sample _ (sample_of_fixed (moveProgram p m) h.cancelled _) h.action, hresume, if_pos hok]

end Move

theorem polls_afterWrites (m : MoveRequest) : Polls (afterWrites m) := by
  unfold afterWrites
  split
  · exact .ended _
  · exact .polling _

theorem afterWrites_of_wait {m : MoveRequest} (h : m.wait = true) : afterWrites m = .polling 0 := by
  simp [afterWrites, h]

theorem wait_of_issued_afterWrites (p : ClientParams) {m : MoveRequest} {ts : List ClientTurn}
    (h : 0 < ((moveProgram p m).issued (afterWrites m) ts).length) : m.wait = true := by
  cases hwait : m.wait with
  | true => rfl
  | false => simp [afterWrites, hwait, issued_ended] at h

/-- Settles O54: write by write, each after an `Ok`, and after the third the polls. -/
theorem moveStagesBeforePosition : Obligations.MoveStagesBeforePosition := by
  intro p m ts
  match ts with
  | [] => simp [ClientProgram.issued]
  | a :: ts =>
    rw [issued_of_writes (writes_stageAcceleration p m)]
    by_cases ha : a.result = .ok
    case neg => simp [ha]
    match ts with
    | [] => simp [ha, ClientProgram.issued]
    | b :: ts =>
      rw [if_pos ha, issued_of_writes (writes_stageSpeed p m)]
      by_cases hb : b.result = .ok
      case neg => simp [ha, hb]
      match ts with
      | [] => simp [ha, hb, ClientProgram.issued]
      | c :: ts =>
        rw [if_pos hb, issued_of_writes (writes_issuePosition p m)]
        by_cases hc : c.result = .ok
        case neg => simp [ha, hb, hc]
        rw [if_pos hc]
        refine ⟨by simp, issued_polls p m (polls_afterWrites m) ts, by simp [ha], by simp [ha, hb], fun hlen => ?_⟩
        exact ⟨by simp [ha, hb, hc], wait_of_issued_afterWrites p (ts := ts) (by simp only [List.length_cons] at hlen; omega)⟩

/-! ### The polls -/

section Polling

variable (p : ClientParams) (m : MoveRequest)

/-- With three `Ok` writes and `wait`, the turns that follow are polls. -/
theorem polls_of_writes {writes : List ClientTurn} (hlen : writes.length = 3) (hok : ∀ t ∈ writes, t.result = .ok)
    (hwait : m.wait = true) (rest : List ClientTurn) :
    (moveProgram p m).run .stageAcceleration (writes ++ rest) = (moveProgram p m).run (.polling 0) rest ∧
      ((moveProgram p m).issued .stageAcceleration (writes ++ rest)).length =
        3 + ((moveProgram p m).issued (.polling 0) rest).length := by
  obtain ⟨a, b, c, rfl⟩ := List.length_eq_three.1 hlen
  simp only [List.mem_cons, List.not_mem_nil, or_false, forall_eq_or_imp, forall_eq] at hok
  obtain ⟨ha, hb, hc⟩ := hok
  simp only [List.cons_append, List.nil_append]
  rw [← afterWrites_of_wait hwait]
  constructor
  · rw [run_of_writes (writes_stageAcceleration p m) ha, run_of_writes (writes_stageSpeed p m) hb,
      run_of_writes (writes_issuePosition p m) hc]
  · rw [issued_of_writes (writes_stageAcceleration p m), if_pos ha, issued_of_writes (writes_stageSpeed p m), if_pos hb,
      issued_of_writes (writes_issuePosition p m), if_pos hc]
    simp only [List.length_cons]
    omega

section Uncancelled

variable {t : ClientTurn} (hcancel : t.cancel = false) {x : Rat} (hx : t.result = .value x) (n : Nat)
include hcancel hx

/-- A poll that is not cancelled and reads a value. -/
theorem run_poll (ts : List ClientTurn) :
    (moveProgram p m).run (.polling n) (t :: ts) =
      (moveProgram p m).run (movePolled p (n + 1) x t.toClientView) ts := by
  rw [run_cons_of_sample _ (sample_of_uncancelled _ hcancel _) rfl]
  simp only [moveProgram, moveResume, hx]

theorem issued_poll (ts : List ClientTurn) :
    (moveProgram p m).issued (.polling n) (t :: ts) =
      .readReg m.id p.aMoving none :: (moveProgram p m).issued (movePolled p (n + 1) x t.toClientView) ts := by
  rw [issued_cons_of_sample _ (sample_of_uncancelled _ hcancel _) rfl]
  simp only [moveProgram, moveResume, hx]

end Uncancelled

/-- A poll that reads moving, in time, before the cap. -/
theorem movePolled_of_moving {n : Nat} {x : Rat} (hx : x ≠ 0) (hn : n ≠ p.moveMaxPolls) {v : ClientView}
    (hnow : v.now < p.moveDeadline) : movePolled p n x v = .polling n := by
  rw [movePolled, if_neg hx, if_neg (by omega)]

/-- Polls that all read moving, in time, before the cap, lead to the next poll. -/
theorem run_of_polls (polls rest : List ClientTurn) (n : Nat)
    (h : ∀ t ∈ polls, t.cancel = false ∧ t.now < p.moveDeadline ∧ ∃ x : Rat, x ≠ 0 ∧ t.result = .value x)
    (hn : n + polls.length < p.moveMaxPolls) :
    (moveProgram p m).run (.polling n) (polls ++ rest) = (moveProgram p m).run (.polling (n + polls.length)) rest ∧
      ((moveProgram p m).issued (.polling n) (polls ++ rest)).length =
        polls.length + ((moveProgram p m).issued (.polling (n + polls.length)) rest).length := by
  induction polls generalizing n with
  | nil => simp
  | cons t polls ih =>
    obtain ⟨⟨hcancel, hnow, x, hx, ht⟩, h⟩ := List.forall_mem_cons.1 h
    rw [List.length_cons] at hn ⊢
    obtain ⟨hrun, hissued⟩ := ih (n + 1) h (by omega)
    rw [List.cons_append, run_poll p m hcancel ht, issued_poll p m hcancel ht,
      movePolled_of_moving p hx (by omega) hnow, hrun, List.length_cons, hissued,
      show n + 1 + polls.length = n + (polls.length + 1) by omega]
    exact ⟨rfl, by omega⟩

end Polling

/-- Settles O55: after the writes and the polls that read moving, the last poll decides. -/
theorem moveEndsReachedOrAtItsCap : Obligations.MoveEndsReachedOrAtItsCap := by
  intro p m writes polls last hwait hlen hok hpolls
  have hrun (hcap : polls.length < p.moveMaxPolls) :
      (moveProgram p m).run .stageAcceleration (writes ++ polls ++ [last]) =
        (moveProgram p m).run (.polling polls.length) [last] := by
    rw [List.append_assoc, (polls_of_writes p m hlen hok hwait _).1, (run_of_polls p m polls [last] 0 hpolls (by omega)).1,
      Nat.zero_add]
  refine ⟨fun hcap hcancel ⟨x, hx, hlast⟩ => ?_, fun hcap hcancel hlast => ?_, fun hcap hcancel => ?_⟩
  · rw [hrun (by omega), run_poll p m hcancel hlast, movePolled, if_neg hx, if_pos (.inl hcap)]
    rfl
  · rw [hrun hcap, run_poll p m hcancel hlast, movePolled, if_pos rfl]
    rfl
  · have hsample : (moveProgram p m).sample (.polling polls.length) last.cancel = .ended .cancelled := if_pos hcancel
    have hnone : (moveProgram p m).action ((moveProgram p m).sample (.polling polls.length) last.cancel) = none := by
      rw [hsample]
      rfl
    refine ⟨by rw [hrun hcap, run_cons_of_none _ hnone, hsample], ?_⟩
    rw [List.append_assoc, (polls_of_writes p m hlen hok hwait _).2, (run_of_polls p m polls [last] 0 hpolls (by omega)).2,
      Nat.zero_add, issued_cons_of_none _ hnone]
    rfl

/-! ## Calibrator (rules R214 to R216) -/

/-- The extremes that a calibration has found are ordered. -/
def ExtremesOrdered : CalState → Prop
  | .centring lo hi => lo ≤ hi
  | .ended (.extremes lo hi) => lo ≤ hi
  | _ => True

theorem extremesOrdered_calRotated (first : Option (BitVec 16)) (r : RotateState) (v : ClientView) :
    ExtremesOrdered (calRotated first r v) := by
  cases r with
  | writeMode => trivial
  | writeSpeed => trivial
  | ended o =>
    simp only [calRotated]
    split <;> trivial

/-- The second extreme is put on its side of the first. -/
theorem extremesOrdered_calSearched (first : Option (BitVec 16)) (b : BlockState) :
    ExtremesOrdered (calSearched first b) := by
  cases b with
  | stalled x =>
    cases first with
    | none => trivial
    | some y =>
      simp only [calSearched]
      split
      · assumption
      · exact (BitVec.le_total _ _).resolve_left ‹_›
  | deadline => trivial
  | cancelled => trivial
  | failed => trivial
  | readPosition => trivial
  | readLoad => trivial

theorem extremesOrdered_calResume (p : ClientParams) (c : CalState) (v : ClientView) (h : ExtremesOrdered c) :
    ExtremesOrdered (calResume p c v) := by
  cases c with
  | rotating first r => exact extremesOrdered_calRotated ..
  | searching first b => exact extremesOrdered_calSearched ..
  | centring lo hi =>
    simp only [calResume]
    split
    · exact h
    · trivial
  | ended o => exact h

theorem extremesOrdered_calCancelled (c : CalState) (h : ExtremesOrdered c) : ExtremesOrdered (calCancelled c) := by
  cases c with
  | rotating first r => trivial
  | searching first b => exact extremesOrdered_calSearched ..
  | centring lo hi => exact h
  | ended o => exact h

theorem calMidpoint_between {lo hi : BitVec 16} (h : lo ≤ hi) :
    (lo.toNat : Rat) ≤ calMidpoint lo hi ∧ calMidpoint lo hi ≤ (hi.toNat : Rat) := by
  have hcast : (lo.toNat : Rat) ≤ (hi.toNat : Rat) := Nat.cast_le.2 h
  constructor <;> rw [calMidpoint] <;> linarith

/-- Settles O56: the order of the extremes is kept from the start of a calibration on. -/
theorem calibrationExtremesAreOrdered : Obligations.CalibrationExtremesAreOrdered := by
  intro p id ts lo hi hrun
  have hordered := run_induction (calProgram p id) ExtremesOrdered extremesOrdered_calCancelled
    (extremesOrdered_calResume p) ts (.rotating none .writeMode) trivial
  rw [hrun] at hordered
  exact ⟨hordered, calMidpoint_between hordered⟩

theorem calSpeedOf_eq (p : ClientParams) (first : Option (BitVec 16)) :
    calSpeedOf p first = (p.calSpeed : Rat) ∨ calSpeedOf p first = -(p.calSpeed : Rat) := by
  unfold calSpeedOf
  split
  · exact .inl rfl
  · exact .inr rfl

theorem centringAddress_eq (p : ClientParams) : centringAddress p = p.aTorque ∨ centringAddress p = p.aOfs := by
  unfold centringAddress
  split
  · exact .inl rfl
  · exact .inr rfl

/-- The commands of rules R214 and R216. -/
def CalibrationCommand (p : ClientParams) (id : Byte) (c : Command) : Prop :=
  c = .writeReg id p.aMode 1 none ∨
  c = .writeReg id p.aSpeed (p.calSpeed : Rat) none ∨
  c = .writeReg id p.aSpeed (-(p.calSpeed : Rat)) none ∨
  (∃ mask : ErrorFlags, mask.overload = false ∧
    (c = .readReg id p.aPos (some mask) ∨ c = .readReg id p.aLoad (some mask))) ∨
  ∃ v : Rat, c = .writeReg id p.aTorque v none ∨ c = .writeReg id p.aOfs v none

theorem calibrationCommand_of_calAction (p : ClientParams) (id : Byte) (c : CalState) (a : Nat × Command)
    (h : calAction p id c = some a) : CalibrationCommand p id a.2 := by
  cases c with
  | rotating first r =>
    cases r with
    | writeMode =>
      cases h
      exact .inl rfl
    | writeSpeed =>
      cases h
      obtain hs | hs := calSpeedOf_eq p first
      · exact .inr (.inl (by rw [hs]))
      · exact .inr (.inr (.inl (by rw [hs])))
    | ended => cases h
  | searching first b =>
    cases b with
    | readPosition =>
      cases h
      exact .inr (.inr (.inr (.inl ⟨calReadMask p, rfl, .inl rfl⟩)))
    | readLoad =>
      cases h
      exact .inr (.inr (.inr (.inl ⟨calReadMask p, rfl, .inr rfl⟩)))
    | stalled => cases h
    | deadline => cases h
    | cancelled => cases h
    | failed => cases h
  | centring lo hi =>
    cases h
    refine .inr (.inr (.inr (.inr ⟨p.centringValue (calMidpoint lo hi), ?_⟩)))
    obtain ha | ha := centringAddress_eq p
    · exact .inl (by rw [centringWrite, ha])
    · exact .inr (by rw [centringWrite, ha])
  | ended => cases h

/-- Settles O57: whatever state a calibration is in, its action is one of these. -/
theorem calibrationCommandsAreItsOwn : Obligations.CalibrationCommandsAreItsOwn := fun p id ts =>
  issued_induction (calProgram p id) (fun _ => True) (CalibrationCommand p id) (fun _ _ => trivial)
    (fun _ _ _ => trivial) (fun c a _ => calibrationCommand_of_calAction p id c a) ts _ trivial

/-! ## A client that drives the block -/

theorem serveInputs_quiet (cfg : Params) (p : PortInputs) (s : State) :
    serveInputs cfg { p with client := .quiet } s = .next (sessionStep cfg { p with client := .quiet } s) := rfl

theorem driveBlock_of_next {σ : Type} {cfg : Params} {e : DriverInputs} {a : ClientAct} {d : Driver σ} {t : State}
    (h : serveInputs cfg { e.port with client := a } d.block = .next t) :
    driveBlock cfg e a d = .next { d with block := t } := by
  simp only [driveBlock, h]

theorem driveBlock_quiet {σ : Type} (cfg : Params) (e : DriverInputs) (d : Driver σ) :
    driveBlock cfg e .quiet d =
      .next { d with block := sessionStep cfg { e.port with client := .quiet } d.block } :=
  driveBlock_of_next (serveInputs_quiet cfg e.port d.block)

/-- Settles O58: the client awaits, and there is no result to take up. -/
theorem driverAwaitsItsResult : Obligations.DriverAwaitsItsResult := by
  intro σ cfg prog e d hawaiting hvalid
  refine ⟨_, serveInputs_quiet cfg e.port d.block, ?_⟩
  rw [← driveBlock_quiet]
  simp [driveStep, hawaiting, hvalid]

/-- A client that is awake at a ready port goes on with its next action. -/
theorem driveStep_awake {σ : Type} (cfg : Params) (prog : ClientProgram σ) (e : DriverInputs) {d : Driver σ}
    (hfree : d.awaiting = false) (hwake : d.wake ≤ e.now) (hready : d.block.cmdReady = true) :
    driveStep cfg prog e d = presentNext cfg prog e d := by
  simp [driveStep, hfree, hwake, hready]

/-- Settles O59: the result taken up, the sleep, the signal, the next read. -/
theorem movePollsSleepAndLookForCancellation : Obligations.MovePollsSleepAndLookForCancellation := by
  intro cfg p m e d n hclient
  refine ⟨fun x hawaiting hvalid hresult hx hcap hnow => ?_, fun hfree hsleep => ?_,
    fun hfree hwake hses hlink hcancel => ?_, fun hfree hwake hses hlink hcancel t ht => ?_⟩
  · have hresume : (moveProgram p m).resume d.client (clientView e.now d.block) = .polling (n + 1) := by
      rw [hclient]
      simp only [moveProgram, moveResume, clientView, hresult]
      exact movePolled_of_moving p hx hcap hnow
    simp only [driveStep, hawaiting, hvalid, if_true, consumeResult, hresume]
    rfl
  · refine ⟨_, serveInputs_quiet cfg e.port d.block, ?_⟩
    rw [← driveBlock_quiet]
    simp [driveStep, hfree, Nat.not_le.2 hsleep]
  · refine ⟨_, serveInputs_quiet cfg e.port d.block, ?_⟩
    rw [driveStep_awake cfg _ e hfree hwake ((cmdReady_iff _).2 ⟨hses, hlink⟩), presentNext, hcancel, hclient]
    exact driveBlock_quiet ..
  · rw [driveStep_awake cfg _ e hfree hwake ((cmdReady_iff _).2 ⟨hses, hlink⟩), presentNext, hcancel, hclient]
    refine (driveBlock_of_next (d := { d with client := MoveState.polling n, awaiting := true }) ht).trans ?_
    rw [← hclient]

end Sys2Proof
end
